-- ==== Sys2Proof/Word.lean ====
section
/-! DEFINITION. The word types of the block: a register byte (00_scope.md R10, DATA_W and REG_ADDR_W) and a
command word (30_encoding.md R100, CMD_W). -/

namespace Sys2Proof

/-- One register of the device, or one register address: 8 bits (R10). -/
abbrev Byte := BitVec 8

/-- One command word: 24 bits (R100). -/
abbrev CmdWord := BitVec 24

end Sys2Proof
end

