-- ==== Sys2Proof/Syntax.lean ====
section
/-! DEFINITION. The typed values of the register protocol (00_scope.md R18, 30_encoding.md R110 to R117) and the
commands, one constructor per row of spec/opcode_table.json (R118). -/

namespace Sys2Proof

/-- outputDataRate (30_encoding.md R110): the four defined values. -/
inductive Odr where
  | odr10 | odr50 | odr100 | odr200
deriving DecidableEq, Repr

/-- overSampleRatio (R110): the four defined values. -/
inductive Osr where
  | osr512 | osr256 | osr128 | osr64
deriving DecidableEq, Repr

/-- fullScale (R110): the two defined values, plus or minus 2 G and 8 G. -/
inductive Rng where
  | rng2G | rng8G
deriving DecidableEq, Repr

/-- The typed Settings triple (R18, R113). -/
structure Settings where
  odr : Odr
  osr : Osr
  rng : Rng
deriving DecidableEq, Repr

/-- The typed Control2 bitset (30_encoding.md R112). -/
structure Control2 where
  softRst : Bool
  rolPnt  : Bool
  intEnb  : Bool
deriving DecidableEq, Repr

/-- The typed Status bitset (R111). -/
structure Status where
  dor  : Bool
  ovl  : Bool
  drdy : Bool
deriving DecidableEq, Repr

/-- The axis of a single-axis read (R114). -/
inductive Axis where
  | x | y | z
deriving DecidableEq, Repr

/-- The commands (R118). A register address and a raw value are any byte; typed operands hold defined values only
(R113, R114, R117). -/
inductive Instr where
  | encset (s : Settings)
  | decset (v : Byte)
  | rdb (r : Byte)
  | wrb (r v : Byte)
  | rdburst (r n : Byte)
  | getst
  | getc2
  | setc2 (f : Control2)
  | rdaxisX
  | rdaxisY
  | rdaxisZ
  | rdall
  | rdtemp
  | new (s : Settings)
  | reset
  | stby
  | isrdy
  | chset (s : Settings)
  | getset
  | getsrp
  | setsrp (v : Byte)
deriving DecidableEq, Repr

end Sys2Proof
end

