-- ==== Sys2Proof/WellFormed.lean ====
section
/-! DEFINITION. The one check a command's operands need beyond their types: the length of a burst is 1 to 255
(30_encoding.md R101 format RN). Every other check of R102 is carried by the operand types. -/

namespace Sys2Proof

/-- A command the decoder can produce: RDBURST's `n` is not 0 (R101, R102). -/
def Instr.wellFormed : Instr → Bool
  | .rdburst _ n => n != 0
  | .encset _ => true
  | .decset _ => true
  | .rdb _ => true
  | .wrb _ _ => true
  | .getst => true
  | .getc2 => true
  | .setc2 _ => true
  | .rdaxisX => true
  | .rdaxisY => true
  | .rdaxisZ => true
  | .rdall => true
  | .rdtemp => true
  | .new _ => true
  | .reset => true
  | .stby => true
  | .isrdy => true
  | .chset _ => true
  | .getset => true
  | .getsrp => true
  | .setsrp _ => true

end Sys2Proof
end

