-- ==== Sys2Proof/Decode.lean ====
section
/-! DEFINITION. Decoding of a command word (30_encoding.md R100 to R102, R113 to R119), total, rejecting by name, and
after it the encoder, written from the same tables. The field codes of R110 are here because the Settings operand
uses them. -/

namespace Sys2Proof

/-- Why a word is an illegal command: the check of R102 it fails. -/
inductive DecodeError where
  /-- `op` is none of the 19 opcodes of R118. -/
  | unknownOpcode
  /-- An operand byte the format does not use is not zero (R101). -/
  | unusedOperand
  /-- A Settings operand with `a[5] = 1` or `a[1:0]` not zero (R113). -/
  | settingsOperand
  /-- An axis code above 2 (R114). -/
  | axisCode
  /-- A flag operand with `a[5:1]` not zero (R117). -/
  | flagOperand
  /-- A burst length of 0 (R101). -/
  | burstLength
deriving DecidableEq, Repr

/-- The code of an outputDataRate (R110). -/
def codeOdr : Odr → BitVec 2
  | .odr10 => 0b00
  | .odr50 => 0b01
  | .odr100 => 0b10
  | .odr200 => 0b11

/-- The code of an overSampleRatio (R110). -/
def codeOsr : Osr → BitVec 2
  | .osr512 => 0b00
  | .osr256 => 0b01
  | .osr128 => 0b10
  | .osr64 => 0b11

/-- The code of a fullScale (R110). -/
def codeRng : Rng → BitVec 2
  | .rng2G => 0b00
  | .rng8G => 0b01

/-- The outputDataRate of a code: every code is defined (R121). -/
def valueOdr (c : BitVec 2) : Odr :=
  if c = 0b00 then .odr10 else if c = 0b01 then .odr50 else if c = 0b10 then .odr100 else .odr200

/-- The overSampleRatio of a code: every code is defined (R121). -/
def valueOsr (c : BitVec 2) : Osr :=
  if c = 0b00 then .osr512 else if c = 0b01 then .osr256 else if c = 0b10 then .osr128 else .osr64

/-- The fullScale of a code: 0b10 and 0b11 are undefined (R110). -/
def valueRng (c : BitVec 2) : Option Rng :=
  if c = 0b00 then some .rng2G else if c = 0b01 then some .rng8G else none

/-- The three packed fields of a Settings in their register positions, bits 1:0 zero: the format S byte (R113). -/
def packSettings (s : Settings) : Byte :=
  (codeOsr s.osr).setWidth 8 <<< 6 ||| (codeRng s.rng).setWidth 8 <<< 4 ||| (codeOdr s.odr).setWidth 8 <<< 2

/-- The typed Settings in the positions of R110; bits 1:0 are not read. None where the RNG code is undefined. -/
def unpackSettings (v : Byte) : Option Settings :=
  match valueRng (v.extractLsb' 4 2) with
  | some rng => some { odr := valueOdr (v.extractLsb' 2 2), osr := valueOsr (v.extractLsb' 6 2), rng := rng }
  | none => none

/-- A Control2 as a byte, bits 5:1 zero (R112, 40_bitcodec.md R144). -/
def byteOfControl2 (c : Control2) : Byte :=
  (BitVec.ofBool c.softRst).setWidth 8 <<< 7 ||| (BitVec.ofBool c.rolPnt).setWidth 8 <<< 6
    ||| (BitVec.ofBool c.intEnb).setWidth 8

/-- A byte read as a Control2 bitset, bits 5:1 dropped with no check (R112, R144). -/
def control2OfByte (v : Byte) : Control2 :=
  { softRst := v.getLsbD 7, rolPnt := v.getLsbD 6, intEnb := v.getLsbD 0 }

/-- Bits 7:0 of a word: the opcode (R100). -/
def opOf (w : CmdWord) : Byte := w.extractLsb' 0 8

/-- Bits 15:8 of a word: operand A (R100). -/
def operandA (w : CmdWord) : Byte := w.extractLsb' 8 8

/-- Bits 23:16 of a word: operand B (R100). -/
def operandB (w : CmdWord) : Byte := w.extractLsb' 16 8

/-- The word `(b << 16) | (a << 8) | op` (R118). -/
def packWord (op a b : Byte) : CmdWord :=
  b.setWidth 24 <<< 16 ||| a.setWidth 24 <<< 8 ||| op.setWidth 24

/-- Format N: both operand bytes are zero (R101). -/
def formatN (i : Instr) (a b : Byte) : Except DecodeError Instr :=
  if a = 0 ∧ b = 0 then .ok i else .error .unusedOperand

/-- Formats V and R: any byte in A, B zero (R101). -/
def formatV (f : Byte → Instr) (a b : Byte) : Except DecodeError Instr :=
  if b = 0 then .ok (f a) else .error .unusedOperand

/-- Format S: a Settings operand in A, B zero (R101, R113). -/
def formatS (f : Settings → Instr) (a b : Byte) : Except DecodeError Instr :=
  if b ≠ 0 then .error .unusedOperand
  else if a.extractLsb' 0 2 ≠ 0 then .error .settingsOperand
  else match unpackSettings a with
    | some s => .ok (f s)
    | none => .error .settingsOperand

/-- Format F: a flag operand in A, B zero (R101, R117). -/
def formatF (f : Control2 → Instr) (a b : Byte) : Except DecodeError Instr :=
  if b ≠ 0 then .error .unusedOperand
  else if a &&& 0x3E ≠ 0 then .error .flagOperand
  else .ok (f (control2OfByte a))

/-- Format X: an axis code 0, 1 or 2 in A, B zero (R101, R114). -/
def formatX (a b : Byte) : Except DecodeError Instr :=
  if b ≠ 0 then .error .unusedOperand
  else if a = 0 then .ok .rdaxisX
  else if a = 1 then .ok .rdaxisY
  else if a = 2 then .ok .rdaxisZ
  else .error .axisCode

/-- Format RN: a register address in A, a length of 1 to 255 in B (R101). -/
def formatRN (a b : Byte) : Except DecodeError Instr :=
  if b = 0 then .error .burstLength else .ok (.rdburst a b)

/-- The opcode alone selects the command and its format (R100, R118); then the format's checks (R102). -/
def decodeFields (op a b : Byte) : Except DecodeError Instr :=
  if op = 0x10 then formatS .encset a b
  else if op = 0x11 then formatV .decset a b
  else if op = 0x20 then formatV .rdb a b
  else if op = 0x21 then .ok (.wrb a b)
  else if op = 0x22 then formatRN a b
  else if op = 0x30 then formatN .getst a b
  else if op = 0x31 then formatN .getc2 a b
  else if op = 0x32 then formatF .setc2 a b
  else if op = 0x40 then formatX a b
  else if op = 0x41 then formatN .rdall a b
  else if op = 0x42 then formatN .rdtemp a b
  else if op = 0x50 then formatS .new a b
  else if op = 0x51 then formatN .reset a b
  else if op = 0x52 then formatN .stby a b
  else if op = 0x53 then formatN .isrdy a b
  else if op = 0x54 then formatS .chset a b
  else if op = 0x55 then formatN .getset a b
  else if op = 0x56 then formatN .getsrp a b
  else if op = 0x57 then formatV .setsrp a b
  else .error .unknownOpcode

/-- Decoding reads no state and touches no bus (R102). -/
def decode (w : CmdWord) : Except DecodeError Instr :=
  decodeFields (opOf w) (operandA w) (operandB w)

/-- The command the decoder reads from the low `nbits` bits of `w`, numbered as spec/opcode_table.json numbers them;
bits above `nbits` are zero. A command word is 24 bits and is handed over whole (R100). -/
def decodeTableWord (nbits w : Nat) : Option Instr :=
  match decode (BitVec.ofNat 24 (w % 2 ^ nbits)) with
  | .ok i => some i
  | .error _ => none

/-- The word of a command (R118). -/
def encode : Instr → CmdWord
  | .encset s => packWord 0x10 (packSettings s) 0
  | .decset v => packWord 0x11 v 0
  | .rdb r => packWord 0x20 r 0
  | .wrb r v => packWord 0x21 r v
  | .rdburst r n => packWord 0x22 r n
  | .getst => packWord 0x30 0 0
  | .getc2 => packWord 0x31 0 0
  | .setc2 f => packWord 0x32 (byteOfControl2 f) 0
  | .rdaxisX => packWord 0x40 0 0
  | .rdaxisY => packWord 0x40 1 0
  | .rdaxisZ => packWord 0x40 2 0
  | .rdall => packWord 0x41 0 0
  | .rdtemp => packWord 0x42 0 0
  | .new s => packWord 0x50 (packSettings s) 0
  | .reset => packWord 0x51 0 0
  | .stby => packWord 0x52 0 0
  | .isrdy => packWord 0x53 0 0
  | .chset s => packWord 0x54 (packSettings s) 0
  | .getset => packWord 0x55 0 0
  | .getsrp => packWord 0x56 0 0
  | .setsrp v => packWord 0x57 v 0

end Sys2Proof
end

