-- ==== Sys2Proof/Machine/Operands.lean ====
section
/-! DEFINITION. The value forms of the commands: the Settings codec (40_bitcodec.md R141, R142), the axis offsets
(30_encoding.md R114), the signed 16-bit and signed byte readings (R115, R116). -/

namespace Sys2Proof.Machine

/-- encodeSettings: the three codes in their fields, bit 0 forced to 1, bit 1 zero (R141). -/
def encodeSettings (s : Settings) : Byte := packSettings s ||| 0x01

/-- decodeSettings: the three fields of a register byte; none where the RNG code is 0b10 or 0b11 (R142). -/
def decodeSettings (v : Byte) : Option Settings := unpackSettings v

/-- The register offset of an axis (R114). -/
def axisOffset : Axis → Byte
  | .x => 0x00
  | .y => 0x02
  | .z => 0x04

/-- le16s: the signed value of `(hi << 8) | lo` (00_scope.md R12, 30_encoding.md R115). -/
def le16s (lo hi : Byte) : Int := (hi.setWidth 16 <<< 8 ||| lo.setWidth 16 : BitVec 16).toInt

/-- The signed value of a byte (R116). -/
def sext (v : Byte) : Int := v.toInt

end Sys2Proof.Machine
end

