-- ==== Sys2Proof/Config.lean ====
section
/-! DEFINITION. What an implementation fixes (00_scope.md R10), the type of what the environment does around one
transaction, and the free values: constants with no body, for everything the spec leaves to a draw. -/

namespace Sys2Proof

/-- A Transport error value, the parameter `E` of R10: opaque to the block, which never looks inside (20_memory.md
R63, 60_exceptions.md R201). DESIGN CHOICE (safe, log 1): the values of E are told apart by a number. -/
structure BusError where
  id : Nat
deriving DecidableEq, Repr, Inhabited

/-- How the Transport answers one transaction (20_memory.md R61 to R63). `hang` is the transaction that never
returns (70_reset_and_hazards.md R244, 93_implementation_defined.md U13; log 11). -/
inductive Answer where
  | ok
  | err (e : BusError)
  | hang
deriving DecidableEq, Repr, Inhabited

/-- One step of the device's environment between two transactions (R8 agent 4, 20_memory.md R73 and R83; log 17). -/
inductive EnvEvent where
  /-- The measurement engine completes a measurement: three axis samples, the temperature, and whether the step sets
  DOR and OVL (R73). It has no effect while `measuring = 0`. -/
  | measure (x y z temp : BitVec 16) (dor ovl : Bool)
  /-- Another master's read transaction of `n` bytes at `addr` (R83). -/
  | foreignRead (addr : Byte) (n : Nat)
  /-- Another master's write transaction of one byte (R83). -/
  | foreignWrite (addr value : Byte)
  /-- Any other access of another master: it may leave the device in any state (R83; log 17). -/
  | disturb
  /-- The platform powers the device (10_state.md R44, R45). -/
  | powerOn
deriving DecidableEq, Repr, Inhabited

/-- One entry of the environment's script: what happens to the device before the next transaction, how the Transport
answers that transaction, and the draws of the transaction, one byte for each byte it reads: the bits a read leaves
open take their value from it (R18 "draw", 20_memory.md R70, R76; DESIGN CHOICE, log 2, log 5). -/
structure EnvStep where
  before : List EnvEvent
  answer : Answer
  draws : List Byte
deriving DecidableEq, Repr, Inhabited

/-- BUS_ADDR: the 7-bit bus address of the device (R10). -/
def Config.busAddr : BitVec 7 := 0x0D

/-- P_DIAG: whether the diagnostic event sink is present (R10, 60_exceptions.md R215; log 16). No value is fixed. -/
opaque Config.diag : Bool

/-- The free byte number `i` of transaction number `k`, where the script holds no draw for it
(93_implementation_defined.md U2, U3, U4, U7, U9; logs 5, 6, 7). -/
opaque Config.freeByte (k i : Nat) : Byte

/-- A free byte: the address pointer after power-on and a soft reset, and where the spec does not say how it moves
(10_state.md R44, R45, 91_not_in_source.md N5,
N6; log 12). -/
opaque Config.freePtr (k : Nat) : Byte

/-- The free value that register `addr` holds since redraw number `epoch` of the device (10_state.md R44, U1, U5, U6,
U8; logs 3, 8, 9, 10). -/
opaque Config.residue (epoch addr : Nat) : Byte

/-- What the environment does around transaction number `k`, where the script of the state has ended (log 2). -/
opaque Config.freeEnv (k : Nat) : EnvStep

end Sys2Proof
end

