-- ==== Sys2Proof/Machine/State.lean ====
section
/-! DEFINITION. Everything the spec gives the machine, as plain data: the block (10_state.md R20 to R27), the device
behind the Transport (R28 to R38), the block's ports, and the environment's script; and the state after reset (R39,
R44, R45). -/

namespace Sys2Proof.Machine

/-- The device's register file: (address, byte) cells, addresses strictly rising. An address with no cell holds no
known byte: its register's value is a draw (R44; log 3, log 18). -/
abbrev Memory := List Host.Cell

/-- The hidden bit `measuring` of the device (R37). `one` and `zero` are its two values; `free` is the bit after a
redraw, whose value the spec leaves to a draw (R44, R45; log 4). -/
inductive Measuring where
  | one
  | zero
  | free
deriving DecidableEq, Repr

/-- The device at bus address 0x0D (R28 to R38). -/
structure Device where
  /-- DEV[0x00..0xFF], the register file (R28 to R35). -/
  mem : Memory
  /-- The address pointer `ptr` (R36). -/
  ptr : Byte
  /-- The hidden standby state (R37). -/
  measuring : Measuring
  /-- MODE_CONT, bit 0 of Settings, reads as a draw: since a wake on access or a redraw (20_memory.md R75, U7; log 6). -/
  modeFree : Bool
  /-- The model's own: the number of redraws of the device, the index of `Config.residue` (log 3). -/
  epoch : Nat
  /-- The model's own: the index of the next `Config.freePtr` (log 12). -/
  fresh : Nat
deriving DecidableEq, Repr

/-- One transaction the block starts on its Transport (20_memory.md R61, R62, R105, R106). -/
inductive BusOp where
  /-- `Transport.write(address, [reg, value])`. -/
  | write (address : BitVec 7) (reg value : Byte)
  /-- `Transport.write_read(address, [reg], n)`. -/
  | writeRead (address : BitVec 7) (reg : Byte) (n : Nat)
deriving DecidableEq, Repr

/-- What a transaction came to (R61, R62): success with the received bytes (none for a write), an error, or no
return at all (70_reset_and_hazards.md R244). -/
inductive BusResult where
  | ok (bytes : List Byte)
  | err (e : BusError)
  | hang
deriving DecidableEq, Repr

/-- A transaction of the block with its result. -/
structure Txn where
  op : BusOp
  result : BusResult
deriving DecidableEq, Repr

/-- The typed payload of a success (30_encoding.md R103). Signed values are integers. -/
inductive Payload where
  | nothing
  | byte (v : Byte)
  | bytes (bs : List Byte)
  | settings (s : Settings)
  | status (st : Status)
  | control2 (c : Control2)
  | int16 (v : Int)
  | axes (x y z : Int)
  | bool (b : Bool)
  | int8 (v : Int)
deriving DecidableEq, Repr

/-- The response of a command: success with a payload, or one of the four errors with its info (R103, R104,
60_exceptions.md R200). -/
inductive Reply where
  | ok (p : Payload)
  | transportError (e : BusError)
  | invalidEncoding (v : Byte)
  | illegalCommand (w : CmdWord)
  | notInitialized
deriving DecidableEq, Repr

/-- A diagnostic event of the optional sink (60_exceptions.md R215; log 16). -/
inductive DiagEvent where
  /-- The start of the RESET body. -/
  | resetStart
  /-- A successful Settings write of NEW or CHSET, with the byte. -/
  | settingsApplied (v : Byte)
  /-- A successful GETST or GETC2 read, with the register and the byte. -/
  | flagsRead (reg v : Byte)
  /-- A successful SETC2 write, with the byte. -/
  | flagsWritten (v : Byte)
deriving DecidableEq, Repr

/-- The whole machine. -/
structure State where
  /-- NEW has succeeded since power-on and no later NEW has failed (R20). -/
  init : Bool
  /-- The software standby flag (R21); the output standby_o shows it (R27). -/
  standby : Bool
  /-- A command is in progress (R24). Between two steps it is set only where a transaction never returned (log 11). -/
  busy : Bool
  /-- The sequencer's `step`: the numbered step of the command in progress (R24), 0 when idle (log 13). -/
  stepNo : Nat
  /-- The sequencer's byte `t` (R25), 0 when idle (log 13). -/
  t : Byte
  /-- The sequencer's `buf`: the bytes of the command's latest read (R25), empty when idle (log 13). -/
  buf : List Byte
  /-- The command port: the words the host presents, the next one first (70_reset_and_hazards.md R246; log 14). -/
  cmds : List CmdWord
  /-- The response port: the response of the latest command; none before the first and while a command is in
  progress (R103; log 15). -/
  resp : Option Reply
  /-- The model's own: the transactions of the latest command, in order (log 15). -/
  bus : List Txn
  /-- The diagnostic events of the latest command, in order (R215; log 16). -/
  events : List DiagEvent
  /-- The device behind the Transport (R28 to R38). -/
  dev : Device
  /-- The environment's script: one entry for each coming transaction (log 2). -/
  env : List EnvStep
  /-- The model's own: the number of transactions made, the index of `Config.freeEnv` and `Config.freeByte` (log 2, log
  5). -/
  txns : Nat
deriving DecidableEq, Repr

/-- Why a step stops the machine. -/
inductive Fault where
  /-- Raised by `step` alone, when a command is in progress whose transaction never returned: "A Transport that blocks
  forever blocks the command forever" (70_reset_and_hazards.md R244, U13). Safe: the hardware makes no further step
  either (log 11). -/
  | transportNeverReturns
deriving DecidableEq, Repr

/-- Why a step gives no meaning to a command. -/
inductive Refusal where
  /-- Raised by `exec`'s arm of a command that has no meaning yet; no arm of this model does. Safe. -/
  | notModelled (mnemonic : String)
deriving DecidableEq, Repr

/-- The device right after power-on (R44, R45): no register's value is known, SOFT_RST and ROL_PNT are 0 (see
`Device.unlisted`), `measuring` and `ptr` are draws (logs 3, 4, 12). -/
def Device.powerOnState : Device :=
  { mem := [], ptr := Config.freePtr 0, measuring := .free, modeFree := true, epoch := 0, fresh := 1 }

/-- The machine right after power-on (R39, R45): the block Uninitialized and idle, no response out, no word waiting,
no script. -/
def State.reset : State :=
  { init := false, standby := false, busy := false, stepNo := 0, t := 0, buf := [], cmds := [], resp := none,
    bus := [], events := [], dev := Device.powerOnState, env := [], txns := 0 }

end Sys2Proof.Machine
end

