-- ==== Sys2Proof/Machine/Memory.lean ====
section
/-! DEFINITION. The named operations over the register file: reading one cell, writing one cell, and the canonical
form every operation keeps (log 18). -/

namespace Sys2Proof.Machine

/-- What an address with no cell reads as: no known byte. The device turns it into the register's free value
(`Device.reg`; log 3). -/
def Memory.unlisted : Option Byte := none

/-- The byte of the cell at address `a`. -/
def Memory.read (m : Memory) (a : Nat) : Option Byte :=
  match m with
  | [] => Memory.unlisted
  | c :: rest => if c.1 = a then some c.2 else Memory.read rest a

/-- Put byte `v` at address `a`, keeping the addresses strictly rising. -/
def Memory.write (m : Memory) (a : Nat) (v : Byte) : Memory :=
  match m with
  | [] => [(a, v)]
  | c :: rest =>
    if a < c.1 then (a, v) :: c :: rest
    else if a = c.1 then (a, v) :: rest
    else c :: Memory.write rest a v

/-- Put the bytes `vs` at `a`, `a + 1`, and so on. -/
def Memory.writeAll (m : Memory) (a : Nat) (vs : List Byte) : Memory :=
  match vs with
  | [] => m
  | v :: rest => Memory.writeAll (Memory.write m a v) (a + 1) rest

/-- The canonical form: addresses strictly rising, each an address of the space (20_memory.md R60). No cell can equal
what an unlisted address reads as, since that is no byte. -/
abbrev Memory.wf (m : Memory) : Prop :=
  m.Pairwise (fun c d => c.1 < d.1) ∧ ∀ c ∈ m, c.1 < 256

end Sys2Proof.Machine
end

