-- ==== Sys2Proof/Machine/Device.lean ====
section
/-! DEFINITION. The reference device behind the Transport (10_state.md R28 to R38, 20_memory.md R69 to R77): what a
transaction reads, what it leaves, and what the environment does to the device between transactions. -/

namespace Sys2Proof.Machine

/-- The free value a register holds since the last redraw (10_state.md R44): any byte, but Control2 bits 7 and 6 are 0
after power-on and after a soft reset. -/
def Device.unlisted (epoch a : Nat) : Byte :=
  if a = 0x0A then Config.residue epoch a &&& 0x3F else Config.residue epoch a

/-- The value register `a` holds. -/
def Device.reg (d : Device) (a : Nat) : Byte :=
  match d.mem.read a with
  | some v => v
  | none => Device.unlisted d.epoch a

/-- Control2.ROL_PNT (R33). -/
def Device.rolPnt (d : Device) : Bool := (d.reg 0x0A).getLsbD 6

/-- The byte a read of register `a` gives, with `f` the free byte of this read. Bits the spec leaves open read as `f`'s:
Status bits 7:3, Control2 bits 5:1 and Settings bit 1 (U9; log 5), Settings bit 0 after a wake (U7; log 6), and
every bit of an address above 0x0B (U4; log 7). -/
def Device.view (d : Device) (a : Nat) (f : Byte) : Byte :=
  if a = 0x06 then (d.reg a &&& 0x07) ||| (f &&& 0xF8)
  else if a = 0x09 then
    if d.modeFree then (d.reg a &&& 0xFC) ||| (f &&& 0x03) else (d.reg a &&& 0xFD) ||| (f &&& 0x02)
  else if a = 0x0A then (d.reg a &&& 0xC1) ||| (f &&& 0x3E)
  else if a ≤ 0x0B then d.reg a
  else f

/-- Byte `i` of a read transaction that starts at `a`, with `f` the transaction's draws (20_memory.md R69, R70, R71). A
byte after the first is defined only while ROL_PNT = 1, for addresses up to 0x0B, and not for Status (U2, U3, U4;
log 7). -/
def Device.burstByte (d : Device) (a : Nat) (f : Nat → Byte) (i : Nat) : Byte :=
  if i = 0 ∨ (d.rolPnt = true ∧ a + i ≤ 0x0B ∧ a + i ≠ 0x06) then d.view (a + i) (f i) else f i

/-- The bytes a read transaction of `n` bytes at `addr` returns: one snapshot of the device (R72). -/
def Device.readBytes (d : Device) (addr : Byte) (n : Nat) (f : Nat → Byte) : List Byte :=
  (List.range n).map (d.burstByte addr.toNat f)

/-- Wake on access: a transaction after the write that put the device in hardware standby sets `measuring` to 1, and
MODE_CONT reads as a draw from then on (R75; log 6). A `measuring` left to a draw stays so (10_state.md R45; log 4). -/
def Device.wake (d : Device) : Device :=
  { d with
    measuring := if d.measuring = .zero then .one else d.measuring
    modeFree := if d.measuring = .zero then true else d.modeFree }

/-- The pointer after a read of `n` bytes at `addr`: advanced once for each byte while ROL_PNT = 1 (R36); a draw where
the spec does not say how it advances or where it wraps (log 12). -/
def Device.ptrAfterRead (d : Device) (addr : Byte) (n : Nat) : Byte :=
  if d.rolPnt = true ∧ addr.toNat + n ≤ 0x0B then addr + BitVec.ofNat 8 n else Config.freePtr d.fresh

/-- The device after a successful read transaction: woken, Status cleared (R71), pointer moved. -/
def Device.afterRead (d : Device) (addr : Byte) (n : Nat) : Device :=
  { d.wake with mem := d.mem.write 0x06 0, ptr := d.ptrAfterRead addr n, fresh := d.fresh + 1 }

/-- Power-on of the device, and a soft reset: every register a draw, but SOFT_RST = 0 and ROL_PNT = 0 (10_state.md R44,
20_memory.md R74). -/
def Device.redraw (d : Device) : Device :=
  { mem := [], ptr := Config.freePtr d.fresh, measuring := .free, modeFree := true, epoch := d.epoch + 1,
    fresh := d.fresh + 1 }

/-- Every register and hidden bit takes a value under no law, Control2 bits 7 and 6 too: after a failed transaction
(R77, U8; log 10), after a write whose effect is not given (U5; log 8), after another master's unnamed access (log
17). -/
def Device.unknown (d : Device) : Device :=
  { d.redraw with mem := [(0x0A, Config.residue (d.epoch + 1) 0x0A)] }

/-- A soft reset by a write of `v` to Control2, `v[7] = 1` (R74). Where `v` also has bit 6 or bit 0, those bits are a
draw afterwards (U6; log 9). -/
def Device.softReset (d : Device) (v : Byte) : Device :=
  { d.redraw with mem := if v &&& 0x41 = 0 then [] else [(0x0A, Config.residue (d.epoch + 1) 0x0A &&& 0x7F)] }

/-- A successful write that stores `v` in register `a` and has no other effect (R76). The pointer is loaded, and what it
is after the written byte is not given (log 12). -/
def Device.store (d : Device) (a : Nat) (v : Byte) : Device :=
  { d with mem := d.mem.write a v, ptr := Config.freePtr d.fresh, fresh := d.fresh + 1 }

/-- A successful write to Settings: bit 0 decides `measuring` (10_state.md R37, 20_memory.md R75). -/
def Device.storeSettings (d : Device) (v : Byte) : Device :=
  { d.store 0x09 v with measuring := if v.getLsbD 0 then .one else .zero, modeFree := false }

/-- The device after a successful write transaction of `v` to `addr` (R74, R75, R76; U5, log 8). -/
def Device.afterWrite (d : Device) (addr v : Byte) : Device :=
  if addr = 0x09 then d.wake.storeSettings v
  else if addr = 0x0A then if v.getLsbD 7 then d.softReset v else d.wake.store 0x0A v
  else if addr = 0x0B then d.wake.store 0x0B v
  else d.unknown

/-- Whether a measurement can complete (R73): not while `measuring = 0`. Where `measuring` is a draw, an update in the
environment's script is the draw 1, and no update there is the draw 0 or 1 (log 4). -/
def Device.mayMeasure (d : Device) : Bool := d.measuring != .zero

/-- The two bytes of a 16-bit value, low byte first (R66). -/
def bytesLE (v : BitVec 16) : List Byte := [v.extractLsb' 0 8, v.extractLsb' 8 8]

/-- The Status byte after a measurement update: DRDY set, DOR and OVL set where the update says so (R73; log 19). -/
def Device.statusAfterUpdate (d : Device) (dor ovl : Bool) : Byte :=
  d.reg 0x06 ||| 0x01 ||| (if dor then 0x04 else 0x00) ||| (if ovl then 0x02 else 0x00)

/-- A measurement update: no effect while `measuring = 0` (R73). -/
def Device.update (d : Device) (x y z temp : BitVec 16) (dor ovl : Bool) : Device :=
  { d with
    mem := if d.mayMeasure then
        (((d.mem.writeAll 0x00 (bytesLE x ++ bytesLE y ++ bytesLE z)).write 0x06 (d.statusAfterUpdate dor ovl)).writeAll
          0x07 (bytesLE temp))
      else d.mem }

/-- One environment step on the device (R73, R83; log 17). -/
def Device.envEvent (d : Device) : EnvEvent → Device
  | .measure x y z temp dor ovl => d.update x y z temp dor ovl
  | .foreignRead addr n => d.afterRead addr n
  | .foreignWrite addr v => d.afterWrite addr v
  | .disturb => d.unknown
  | .powerOn => d.redraw

/-- The environment steps between two transactions, in order (R9). -/
def Device.envEvents (d : Device) (es : List EnvEvent) : Device := es.foldl Device.envEvent d

/-- The bytes the device answers a transaction with, `f` the transaction's draws (R61, R62). A read finds the device
already woken (R75). -/
def Device.answer (d : Device) (f : Nat → Byte) : BusOp → List Byte
  | .write _ _ _ => []
  | .writeRead _ reg n => d.wake.readBytes reg n f

/-- The device after a successful transaction. -/
def Device.perform (d : Device) : BusOp → Device
  | .write _ reg v => d.afterWrite reg v
  | .writeRead _ reg n => d.afterRead reg n

end Sys2Proof.Machine
end

