-- ==== Sys2Proof/Machine/Ops.lean ====
section
/-! DEFINITION. The block's shared operations: the named updates of its state, the Transport with the environment
around it (20_memory.md R61 to R63), the sequencer that performs a command's numbered steps (10_state.md R24), the
primitives MemRead and MemWrite (00_scope.md R14, R15), `raise` and `respond` (R16, 60_exceptions.md R205), the
lifecycle check (R212) and the command port. -/

namespace Sys2Proof.Machine

/-! ## Named updates of the block's state -/

/-- Write the flag `init` (R20). -/
def State.setInit (s : State) (b : Bool) : State := { s with init := b }

/-- Write the flag `standby` (R21). -/
def State.setStandby (s : State) (b : Bool) : State := { s with standby := b }

/-- Write the sequencer's byte `t` (R25). -/
def State.setT (s : State) (v : Byte) : State := { s with t := v }

/-- Write the sequencer's `buf` (R25). -/
def State.setBuf (s : State) (bs : List Byte) : State := { s with buf := bs }

/-- `step <- step + 1` (R24). -/
def State.tick (s : State) : State := { s with stepNo := s.stepNo + 1 }

/-- Emit a diagnostic event where the sink is present (60_exceptions.md R215; log 16). -/
def State.emit (s : State) (e : DiagEvent) : State :=
  { s with events := if Config.diag then s.events ++ [e] else s.events }

/-- Accept a command: `busy <- 1`, `step <- 1` (R24). The response port, the transactions and the events are the new
command's from here on (log 15). -/
def State.accept (s : State) : State :=
  { s with busy := true, stepNo := 1, resp := none, bus := [], events := [] }

/-- The one operation that ends a command, on success and on `raise` alike: the response is emitted and the block is
idle (R24, 60_exceptions.md R205). Nothing is saved, masked, undone or jumped to. `t`, `buf` and `step` hold no value
when the command has ended (R39; log 13). -/
def State.close (s : State) (r : Reply) : State :=
  { s with resp := some r, busy := false, stepNo := 0, t := 0, buf := [] }

/-- Byte `i` of `buf` (R25). -/
def State.bufAt (s : State) (i : Nat) : Byte := s.buf.getD i 0

/-- The output standby_o: the current value of `standby` (R27). -/
def State.standbyO (s : State) : Bool := s.standby

/-- The three lifecycle states of the source (R22). -/
inductive Lifecycle where
  | uninitialized
  | active
  | standby
deriving DecidableEq, Repr

/-- The lifecycle state, read off the two bits (R22). -/
def State.lifecycle (s : State) : Lifecycle :=
  if s.init then (if s.standby then .standby else .active) else .uninitialized

/-! ## The Transport and the environment around it -/

/-- What the environment does around the `k`-th coming transaction: the script's entry, or a free one where the script
has ended (log 2). -/
def State.envAt (s : State) (k : Nat) : EnvStep := s.env.getD k (Config.freeEnv (s.txns + k))

/-- The device as the next transaction finds it, after the environment's steps before it (R9). -/
def State.devNow (s : State) : Device := s.dev.envEvents (s.envAt 0).before

/-- The draw of byte `i` of the next transaction (R18; log 5). -/
def State.drawNow (s : State) (i : Nat) : Byte := (s.envAt 0).draws.getD i (Config.freeByte s.txns i)

/-- The result of the next transaction, were it `op` (R61, R62). -/
def State.resultNow (s : State) (op : BusOp) : BusResult :=
  match (s.envAt 0).answer with
  | .ok => .ok (s.devNow.answer s.drawNow op)
  | .err e => .err e
  | .hang => .hang

/-- The device after the next transaction, were it `op`: a failed transaction leaves it in an unknown state (R77), and
so does one that never returns (log 10, log 11). -/
def State.devAfter (s : State) (op : BusOp) : Device :=
  match (s.envAt 0).answer with
  | .ok => s.devNow.perform op
  | .err _ => s.devNow.unknown
  | .hang => s.devNow.unknown

/-- Perform one transaction (R61, R62): the state after it. Its result is `s.resultNow op`. -/
def State.transact (s : State) (op : BusOp) : State :=
  { s with dev := s.devAfter op, env := s.env.tail, txns := s.txns + 1, bus := s.bus ++ [⟨op, s.resultNow op⟩] }

/-! ## The sequencer -/

/-- Where a command's sequence stands (R16, R24). -/
inductive Seq where
  /-- The numbered step is complete; the command goes on. -/
  | go (s : State)
  /-- The command ends with this response: `respond` or `raise`. -/
  | stop (r : Reply) (s : State)
  /-- The transaction of this step never returned (70_reset_and_hazards.md R244; log 11). -/
  | hung (s : State)

/-- Perform the next numbered step, if the command goes on (R24). -/
def Seq.andThen (q : Seq) (f : State → Seq) : Seq :=
  match q with
  | .go s => f s.tick
  | .stop r s => .stop r s
  | .hung s => .hung s

/-- `respond(v)` (R16). -/
def respond (p : Payload) (s : State) : Seq := .stop (.ok p) s

/-- `raise X(info)`: every change already made stays, no later step is performed (R16, 60_exceptions.md R205). -/
def raise (r : Reply) (s : State) : Seq := .stop r s

/-- The end of a command: a sequence whose last step is reached without `respond` succeeds with nothing (R16). A command
whose transaction never returned stays in progress (R244; log 11). -/
def Seq.finish : Seq → State
  | .go s => s.close (.ok .nothing)
  | .stop r s => s.close r
  | .hung s => s

/-- MemRead(addr, n), the received bytes in `buf` (00_scope.md R14, 20_memory.md R64). -/
def memRead (addr : Byte) (n : Nat) (s : State) : Seq :=
  let s := s.setStandby false
  let op := BusOp.writeRead Config.busAddr addr n
  match s.resultNow op with
  | .ok bytes => .go ((s.transact op).setBuf bytes)
  | .err e => raise (.transportError e) (s.transact op)
  | .hang => .hung (s.transact op)

/-- MemWrite(addr, 1, v) (00_scope.md R15, 20_memory.md R65). -/
def memWrite (addr v : Byte) (s : State) : Seq :=
  let s := s.setStandby false
  let op := BusOp.write Config.busAddr addr v
  match s.resultNow op with
  | .ok _ => .go (s.transact op)
  | .err e => raise (.transportError e) (s.transact op)
  | .hang => .hung (s.transact op)

/-- Run a command that is legal in every lifecycle state: NEW, ENCSET, DECSET (60_exceptions.md R212). -/
def runAlways (body : State → Seq) (s : State) : State := (body s.accept).finish

/-- Run a command that needs `init = 1`; with `init = 0` it answers NotInitialized, with no transaction and no state
change (60_exceptions.md R204, R212). -/
def runInitialized (body : State → Seq) (s : State) : State :=
  if s.init then (body s.accept).finish else s.accept.close .notInitialized

/-- The response to a word that is no command: IllegalCommand with the word, no transaction, no state change
(30_encoding.md R119). -/
def refuseWord (w : CmdWord) (s : State) : State := s.accept.close (.illegalCommand w)

/-! ## The command port -/

/-- Take the next word from the command port, if one waits (70_reset_and_hazards.md R246; log 14). -/
def State.takeWord (s : State) : Option (CmdWord × State) :=
  match s.cmds with
  | [] => none
  | w :: rest => some (w, { s with cmds := rest })

/-- Present `w` on an idle block's command port, in place of the word that waits there (log 14). -/
def State.presentWord (s : State) (w : CmdWord) : State := { s with cmds := w :: s.cmds.tail, busy := false }

end Sys2Proof.Machine
end

