-- ==== Sys2Proof/Machine/AxisDataReader.lean ====
section
/-! DEFINITION. The AxisDataReader family: RDAXIS, RDALL, RDTEMP (43_axis_data_reader.md R170 to R173). -/

namespace Sys2Proof.Machine

/-- A two-byte read at `addr`, answered as one signed 16-bit value (R171, R173). -/
def readInt16 (addr : Byte) (s : State) : Seq :=
  (memRead addr 2 s).andThen fun s => respond (.int16 (le16s (s.bufAt 0) (s.bufAt 1))) s

/-- RDAXIS X (R171). -/
def execRdaxisX (s : State) : Host.Outcome State Fault Refusal :=
  .next (runInitialized (readInt16 (axisOffset .x)) s)

/-- RDAXIS Y (R171). -/
def execRdaxisY (s : State) : Host.Outcome State Fault Refusal :=
  .next (runInitialized (readInt16 (axisOffset .y)) s)

/-- RDAXIS Z (R171). -/
def execRdaxisZ (s : State) : Host.Outcome State Fault Refusal :=
  .next (runInitialized (readInt16 (axisOffset .z)) s)

/-- RDALL: one six-byte read, three values in X, Y, Z order (R172). -/
def execRdall (s : State) : Host.Outcome State Fault Refusal :=
  .next (runInitialized (fun s => (memRead 0x00 6 s).andThen fun s =>
    respond (.axes (le16s (s.bufAt 0) (s.bufAt 1)) (le16s (s.bufAt 2) (s.bufAt 3))
      (le16s (s.bufAt 4) (s.bufAt 5))) s) s)

/-- RDTEMP (R173). -/
def execRdtemp (s : State) : Host.Outcome State Fault Refusal :=
  .next (runInitialized (readInt16 0x07) s)

end Sys2Proof.Machine
end

