-- ==== Sys2Proof/Machine/BitCodec.lean ====
section
/-! DEFINITION. The BitCodec family: ENCSET, DECSET (40_bitcodec.md R140 to R142). -/

namespace Sys2Proof.Machine

/-- DECSET's sequence, and steps 2 and 3 of GETSET (R142, 44_device_controller.md R186). -/
def decodeBody (v : Byte) (s : State) : Seq :=
  match decodeSettings v with
  | some set => respond (.settings set) s
  | none => raise (.invalidEncoding v) s

/-- ENCSET s (R141). -/
def execEncset (set : Settings) (s : State) : Host.Outcome State Fault Refusal :=
  .next (runAlways (respond (.byte (encodeSettings set))) s)

/-- DECSET v (R142). -/
def execDecset (v : Byte) (s : State) : Host.Outcome State Fault Refusal :=
  .next (runAlways (decodeBody v) s)

end Sys2Proof.Machine
end

