-- ==== Sys2Proof/Machine/DeviceController.lean ====
section
/-! DEFINITION. The DeviceController family: NEW, RESET, STBY, ISRDY, CHSET, GETSET, GETSRP, SETSRP
(44_device_controller.md R180 to R189). -/

namespace Sys2Proof.Machine

/-- The body of RESET, steps 2 and 3 of NEW: the reset pulse, then rollover enable (R182). -/
def resetBody (s : State) : Seq :=
  (memWrite 0x0A 0x80 (s.emit .resetStart)).andThen (memWrite 0x0A 0x40)

/-- The body of CHSET, step 4 of NEW: the Settings write (R185). -/
def settingsBody (set : Settings) (s : State) : Seq := memWrite 0x09 (encodeSettings set) s

/-- NEW s (R181). -/
def execNew (set : Settings) (s : State) : Host.Outcome State Fault Refusal :=
  .next (runAlways (fun s =>
    (((Seq.go ((s.setInit false).setStandby false)).andThen resetBody).andThen (settingsBody set)).andThen fun s =>
      .go ((s.emit (.settingsApplied (encodeSettings set))).setInit true)) s)

/-- RESET (R182). -/
def execReset (s : State) : Host.Outcome State Fault Refusal :=
  .next (runInitialized resetBody s)

/-- STBY: the mask is on the raw byte, which is not decoded (R183). -/
def execStby (s : State) : Host.Outcome State Fault Refusal :=
  .next (runInitialized (fun s =>
    ((memRead 0x09 1 s).andThen fun s => memWrite 0x09 (s.bufAt 0 &&& 0xFE) (s.setT (s.bufAt 0))).andThen fun s =>
      .go (s.setStandby true)) s)

/-- ISRDY (R184). -/
def execIsrdy (s : State) : Host.Outcome State Fault Refusal :=
  .next (runInitialized (fun s => (memRead 0x06 1 s).andThen fun s =>
    respond (.bool ((s.bufAt 0).getLsbD 0)) s) s)

/-- CHSET s (R185). -/
def execChset (set : Settings) (s : State) : Host.Outcome State Fault Refusal :=
  .next (runInitialized (fun s => (settingsBody set s).andThen fun s =>
    .go (s.emit (.settingsApplied (encodeSettings set)))) s)

/-- GETSET (R186). -/
def execGetset (s : State) : Host.Outcome State Fault Refusal :=
  .next (runInitialized (fun s => (memRead 0x09 1 s).andThen fun s =>
    decodeBody (s.bufAt 0) (s.setT (s.bufAt 0))) s)

/-- GETSRP (R187). -/
def execGetsrp (s : State) : Host.Outcome State Fault Refusal :=
  .next (runInitialized (fun s => (memRead 0x0B 1 s).andThen fun s => respond (.int8 (sext (s.bufAt 0))) s) s)

/-- SETSRP v (R188). -/
def execSetsrp (v : Byte) (s : State) : Host.Outcome State Fault Refusal :=
  .next (runInitialized (memWrite 0x0B v) s)

end Sys2Proof.Machine
end

