-- ==== Sys2Proof/Machine/Flags.lean ====
section
/-! DEFINITION. The flag register codecs (30_encoding.md R111, R112, 40_bitcodec.md R144). The codec of Control2 is
that of SETC2's operand and stands in Decode.lean (`byteOfControl2`, `control2OfByte`). -/

namespace Sys2Proof.Machine

/-- A byte read as a Status bitset, bits 7:3 dropped with no check (R111). -/
def statusOfByte (v : Byte) : Status :=
  { dor := v.getLsbD 2, ovl := v.getLsbD 1, drdy := v.getLsbD 0 }

/-- The payload byte of a Status, bits 7:3 zero (R103). No command writes it to the device. -/
def payloadOfStatus (st : Status) : Byte :=
  (BitVec.ofBool st.dor).setWidth 8 <<< 2 ||| (BitVec.ofBool st.ovl).setWidth 8 <<< 1
    ||| (BitVec.ofBool st.drdy).setWidth 8

end Sys2Proof.Machine
end

