-- ==== Sys2Proof/Machine/FlagRegister.lean ====
section
/-! DEFINITION. The FlagRegister family: GETST, GETC2, SETC2 (42_flag_register.md R160 to R163). -/

namespace Sys2Proof.Machine

/-- GETST (R161). -/
def execGetst (s : State) : Host.Outcome State Fault Refusal :=
  .next (runInitialized (fun s => (memRead 0x06 1 s).andThen fun s =>
    respond (.status (statusOfByte (s.bufAt 0))) (s.emit (.flagsRead 0x06 (s.bufAt 0)))) s)

/-- GETC2 (R162). -/
def execGetc2 (s : State) : Host.Outcome State Fault Refusal :=
  .next (runInitialized (fun s => (memRead 0x0A 1 s).andThen fun s =>
    respond (.control2 (control2OfByte (s.bufAt 0))) (s.emit (.flagsRead 0x0A (s.bufAt 0)))) s)

/-- SETC2 f: a plain store of the bitset's byte (R163). -/
def execSetc2 (f : Control2) (s : State) : Host.Outcome State Fault Refusal :=
  .next (runInitialized (fun s => (memWrite 0x0A (byteOfControl2 f) s).andThen fun s =>
    .go (s.emit (.flagsWritten (byteOfControl2 f)))) s)

end Sys2Proof.Machine
end

