-- ==== Sys2Proof/Machine/RegisterAccess.lean ====
section
/-! DEFINITION. The RegisterAccess family: RDB, WRB, RDBURST (41_register_access.md R150 to R153). -/

namespace Sys2Proof.Machine

/-- RDB r (R151). -/
def execRdb (r : Byte) (s : State) : Host.Outcome State Fault Refusal :=
  .next (runInitialized (fun s => (memRead r 1 s).andThen fun s => respond (.byte (s.bufAt 0)) s) s)

/-- WRB r, v (R152). -/
def execWrb (r v : Byte) (s : State) : Host.Outcome State Fault Refusal :=
  .next (runInitialized (memWrite r v) s)

/-- RDBURST r, n (R153). -/
def execRdburst (r n : Byte) (s : State) : Host.Outcome State Fault Refusal :=
  .next (runInitialized (fun s => (memRead r n.toNat s).andThen fun s => respond (.bytes s.buf) s) s)

end Sys2Proof.Machine
end

