-- ==== Sys2Proof/Machine/Dispatch.lean ====
section
/-! DEFINITION. One command, whole: one arm per constructor of Instr, each a direct call of its meaning. -/

namespace Sys2Proof.Machine
open Sys2Proof

def exec (i : Instr) (s : State) : Host.Outcome State Fault Refusal :=
  match i with
  | .encset st => Sys2Proof.Machine.execEncset st s
  | .decset v => Sys2Proof.Machine.execDecset v s
  | .rdb r => Sys2Proof.Machine.execRdb r s
  | .wrb r v => Sys2Proof.Machine.execWrb r v s
  | .rdburst r n => Sys2Proof.Machine.execRdburst r n s
  | .getst => Sys2Proof.Machine.execGetst s
  | .getc2 => Sys2Proof.Machine.execGetc2 s
  | .setc2 f => Sys2Proof.Machine.execSetc2 f s
  | .rdaxisX => Sys2Proof.Machine.execRdaxisX s
  | .rdaxisY => Sys2Proof.Machine.execRdaxisY s
  | .rdaxisZ => Sys2Proof.Machine.execRdaxisZ s
  | .rdall => Sys2Proof.Machine.execRdall s
  | .rdtemp => Sys2Proof.Machine.execRdtemp s
  | .new st => Sys2Proof.Machine.execNew st s
  | .reset => Sys2Proof.Machine.execReset s
  | .stby => Sys2Proof.Machine.execStby s
  | .isrdy => Sys2Proof.Machine.execIsrdy s
  | .chset st => Sys2Proof.Machine.execChset st s
  | .getset => Sys2Proof.Machine.execGetset s
  | .getsrp => Sys2Proof.Machine.execGetsrp s
  | .setsrp v => Sys2Proof.Machine.execSetsrp v s

end Sys2Proof.Machine
end

