-- ==== Sys2Proof/Machine/Step.lean ====
section
/-! DEFINITION. One step: the block takes the next command word and performs the command, or waits for one. -/

namespace Sys2Proof.Machine

/-- One step. A block whose transaction never returned makes none (70_reset_and_hazards.md R244). An idle block with no
word waiting stays as it is (10_state.md R40). A word that decodes is performed whole; any other is answered
IllegalCommand (30_encoding.md R119). -/
def step (s : State) : Host.Outcome State Fault Refusal :=
  if s.busy then .fault .transportNeverReturns
  else match s.takeWord with
    | none => .next s
    | some (w, s') =>
      match decode w with
      | .ok i => exec i s'
      | .error _ => .next (refuseWord w s')

/-- `s` with the command word `w` (its low `nbits` bits) on the command port of the idle block, where `step` takes its
next command. -/
def State.withFetchWord (s : State) (nbits w : Nat) : State := s.presentWord (BitVec.ofNat 24 (w % 2 ^ nbits))

end Sys2Proof.Machine
end

