-- ==== Sys2Proof/Machine/Response.lean ====
section
/-! DEFINITION. The response port's form: result codes (30_encoding.md R104) and payload bytes (R103). -/

namespace Sys2Proof.Machine

/-- The two's complement bytes of a signed 16-bit value, low byte first (R103). -/
def int16Bytes (v : Int) : List Byte :=
  [(BitVec.ofInt 16 v).extractLsb' 0 8, (BitVec.ofInt 16 v).extractLsb' 8 8]

/-- The payload bytes of a success (R103). -/
def Payload.serialize : Payload → List Byte
  | .nothing => []
  | .byte v => [v]
  | .bytes bs => bs
  | .settings s => [packSettings s]
  | .status st => [payloadOfStatus st]
  | .control2 c => [byteOfControl2 c]
  | .int16 v => int16Bytes v
  | .axes x y z => int16Bytes x ++ int16Bytes y ++ int16Bytes z
  | .bool b => [if b then 0x01 else 0x00]
  | .int8 v => [BitVec.ofInt 8 v]

/-- The result code of a response (R104). -/
def Reply.code : Reply → Byte
  | .ok _ => 0x00
  | .transportError _ => 0x01
  | .invalidEncoding _ => 0x02
  | .illegalCommand _ => 0x03
  | .notInitialized => 0x04

/-- What a response carries beside its code (R104). -/
inductive Info where
  | bytes (bs : List Byte)
  | busError (e : BusError)
  | word (w : CmdWord)
deriving DecidableEq, Repr

/-- The payload of a response: the command's, or the error's info (R103, R104). -/
def Reply.info : Reply → Info
  | .ok p => .bytes p.serialize
  | .transportError e => .busError e
  | .invalidEncoding v => .bytes [v]
  | .illegalCommand w => .word w
  | .notInitialized => .bytes []

end Sys2Proof.Machine
end

