-- ==== Sys2Proof/Safety.lean ====
section
/-! DEFINITION. The terms claims are made in: what a safe state is, which commands are of which kind, the invariant of
the machine, and what a transaction leaves in the device, said through the value a register holds. -/

namespace Sys2Proof.Machine

/-- The block can take another command: no transaction is outstanding (10_state.md R24). -/
abbrev State.safe (s : State) : Prop := s.busy = false

/-- ENCSET and DECSET: no transaction, no dependence on the lifecycle state (40_bitcodec.md R140). -/
def isPure : Instr → Bool
  | .encset _ => true
  | .decset _ => true
  | _ => false

/-- NEW (44_device_controller.md R181). -/
def isNew : Instr → Bool
  | .new _ => true
  | _ => false

/-- The commands that need `init = 1` (60_exceptions.md R212): all but ENCSET, DECSET and NEW. -/
def needsInit (i : Instr) : Bool := !isPure i && !isNew i

/-- The commands that are one read transaction (20_memory.md R68; STBY also writes). -/
def isSingleRead : Instr → Bool
  | .rdb _ => true
  | .rdburst _ _ => true
  | .getst => true
  | .getc2 => true
  | .rdaxisX => true
  | .rdaxisY => true
  | .rdaxisZ => true
  | .rdall => true
  | .rdtemp => true
  | .isrdy => true
  | .getset => true
  | .getsrp => true
  | _ => false

/-- The number of transactions of a command that runs through: ENCSET and DECSET none, NEW three, RESET and STBY two,
every other command one (20_memory.md R68, 44_device_controller.md R181 to R189). -/
def txnCount : Instr → Nat
  | .encset _ => 0
  | .decset _ => 0
  | .rdb _ => 1
  | .wrb _ _ => 1
  | .rdburst _ _ => 1
  | .getst => 1
  | .getc2 => 1
  | .setc2 _ => 1
  | .rdaxisX => 1
  | .rdaxisY => 1
  | .rdaxisZ => 1
  | .rdall => 1
  | .rdtemp => 1
  | .new _ => 3
  | .reset => 2
  | .stby => 2
  | .isrdy => 1
  | .chset _ => 1
  | .getset => 1
  | .getsrp => 1
  | .setsrp _ => 1

/-- The bus address of a transaction. -/
def BusOp.address : BusOp → BitVec 7
  | .write a _ _ => a
  | .writeRead a _ _ => a

/-- The bytes the block sends in a transaction (30_encoding.md R105, R106). -/
def BusOp.sent : BusOp → List Byte
  | .write _ reg v => [reg, v]
  | .writeRead _ reg _ => [reg]

/-- A transaction that was answered `ok`. -/
def BusResult.isOk : BusResult → Bool
  | .ok _ => true
  | .err _ => false
  | .hang => false

/-- Every register cell is one of the map, and the file is in canonical form (10_state.md R28; log 18). -/
abbrev State.memOk (s : State) : Prop := s.dev.mem.wf ∧ ∀ c ∈ s.dev.mem, c.1 ≤ 0x0B

/-- "`standby = 1` implies `init = 1`" (10_state.md R22). -/
abbrev State.lifecycleOk (s : State) : Prop := s.standby = true → s.init = true

/-- An idle sequencer holds nothing (10_state.md R39; log 13). -/
abbrev State.idleOk (s : State) : Prop := s.busy = false → s.stepNo = 0 ∧ s.t = 0 ∧ s.buf = []

/-- A command in progress has no response out (10_state.md R24, 30_encoding.md R103). -/
abbrev State.replyOk (s : State) : Prop := s.busy = true → s.resp = none

/-- The latest command made at most three transactions, each to bus address 0x0D (00_scope.md R10,
44_device_controller.md R189), and only its last can have failed. -/
abbrev State.busOk (s : State) : Prop :=
  s.bus.length ≤ 3 ∧ (∀ x ∈ s.bus, x.op.address = 0x0D) ∧ ∀ x ∈ s.bus.dropLast, x.result.isOk = true

/-- The invariant of the machine. -/
structure State.Inv (s : State) : Prop where
  mem : s.memOk
  lifecycle : s.lifecycleOk
  idle : s.idleOk
  reply : s.replyOk
  bus : s.busOk

/-- The command has ended with response `r`: the block is idle, its sequencer holds nothing (log 13), and the command port
is as it was (10_state.md R24, 60_exceptions.md R205). -/
structure Ended (s t : State) (r : Reply) : Prop where
  resp : t.resp = some r
  busy : t.busy = false
  stepNo : t.stepNo = 0
  byteT : t.t = 0
  buf : t.buf = []
  cmds : t.cmds = s.cmds

/-- The command's transactions were exactly those of `tr`, each taking one entry of the environment's script. -/
structure Traffic (s t : State) (tr : List Txn) : Prop where
  bus : t.bus = tr
  env : t.env = s.env.drop tr.length
  txns : t.txns = s.txns + tr.length

/-- Nothing of the device, the environment or the lifecycle changed: no transaction was made. -/
structure NoBus (s t : State) : Prop where
  traffic : Traffic s t []
  init : t.init = s.init
  standby : t.standby = s.standby
  dev : t.dev = s.dev
  events : t.events = []

/-- What a successful read transaction leaves: Status cleared (20_memory.md R71), a device in hardware standby woken
(R75; MODE_CONT then reads as a draw, U7), every other register as it was. -/
structure ReadEffect (d d' : Device) : Prop where
  status : d'.reg 0x06 &&& 0x07 = 0
  frame : ∀ a, a ≠ 0x06 → d'.reg a = d.reg a
  measuring : d'.measuring = if d.measuring = .zero then .one else d.measuring
  modeFree : d'.modeFree = if d.measuring = .zero then true else d.modeFree

/-- What a successful write that stores one register leaves: the byte stored (R76), every other register as it was,
Status with them (R71). -/
structure StoreEffect (d d' : Device) (a : Nat) (v : Byte) : Prop where
  stored : d'.reg a = v
  frame : ∀ b, b ≠ a → d'.reg b = d.reg b

/-- The device `d` has gone into an unknown state: every register holds a free value of the new redraw, Control2 bits 7
and 6 with them, and the hidden bits are draws (20_memory.md R77, U5, U8; logs 8, 10). -/
structure UnknownEffect (d d' : Device) : Prop where
  regs : ∀ a, d'.reg a = Config.residue (d.epoch + 1) a
  measuring : d'.measuring = .free
  modeFree : d'.modeFree = true

/-- The diagnostic events of a command: `es` where the sink is present, none where it is not (60_exceptions.md R215). -/
abbrev Emitted (t : State) (es : List DiagEvent) : Prop := t.events = if Config.diag then es else []

/-- The bits of register `a` a read gives as the register holds them; the others are open (U4, U7, U9). -/
def Device.knownBits (d : Device) (a : Nat) : Byte :=
  if a = 0x06 then 0x07
  else if a = 0x09 then if d.modeFree ∨ d.measuring = .zero then 0xFC else 0xFD
  else if a = 0x0A then 0xC1
  else if a ≤ 0x0B then 0xFF
  else 0x00

/-- The device as the `k`-th transaction of the command finds it, where the one before left it as `d` (R9). -/
def State.devFound (s : State) (d : Device) (k : Nat) : Device := d.envEvents (s.envAt k).before

/-- A row of the opcode map (30_encoding.md R118): the row's match and mask. -/
structure TableRow where
  pattern : CmdWord
  mask : CmdWord
deriving DecidableEq, Repr

/-- The row of each command, as R118 lists it. -/
def rowOf : Instr → TableRow
  | .encset _ => ⟨0x000010, 0xFF23FF⟩
  | .decset _ => ⟨0x000011, 0xFF00FF⟩
  | .rdb _ => ⟨0x000020, 0xFF00FF⟩
  | .wrb _ _ => ⟨0x000021, 0x0000FF⟩
  | .rdburst _ _ => ⟨0x000022, 0x0000FF⟩
  | .getst => ⟨0x000030, 0xFFFFFF⟩
  | .getc2 => ⟨0x000031, 0xFFFFFF⟩
  | .setc2 _ => ⟨0x000032, 0xFF3EFF⟩
  | .rdaxisX => ⟨0x000040, 0xFFFFFF⟩
  | .rdaxisY => ⟨0x000140, 0xFFFFFF⟩
  | .rdaxisZ => ⟨0x000240, 0xFFFFFF⟩
  | .rdall => ⟨0x000041, 0xFFFFFF⟩
  | .rdtemp => ⟨0x000042, 0xFFFFFF⟩
  | .new _ => ⟨0x000050, 0xFF23FF⟩
  | .reset => ⟨0x000051, 0xFFFFFF⟩
  | .stby => ⟨0x000052, 0xFFFFFF⟩
  | .isrdy => ⟨0x000053, 0xFFFFFF⟩
  | .chset _ => ⟨0x000054, 0xFF23FF⟩
  | .getset => ⟨0x000055, 0xFFFFFF⟩
  | .getsrp => ⟨0x000056, 0xFFFFFF⟩
  | .setsrp _ => ⟨0x000057, 0xFF00FF⟩

/-- The words R118 gives a meaning: those some row of the opcode map selects, RDBURST's with `b` not zero. -/
def legalWord (w : CmdWord) : Bool :=
  [(0x000010, 0xFF23FF), (0x000011, 0xFF00FF), (0x000020, 0xFF00FF), (0x000021, 0x0000FF), (0x000030, 0xFFFFFF),
    (0x000031, 0xFFFFFF), (0x000032, 0xFF3EFF), (0x000040, 0xFFFFFF), (0x000140, 0xFFFFFF), (0x000240, 0xFFFFFF),
    (0x000041, 0xFFFFFF), (0x000042, 0xFFFFFF), (0x000050, 0xFF23FF), (0x000051, 0xFFFFFF), (0x000052, 0xFFFFFF),
    (0x000053, 0xFFFFFF), (0x000054, 0xFF23FF), (0x000055, 0xFFFFFF), (0x000056, 0xFFFFFF),
    ((0x000057, 0xFF00FF) : CmdWord × CmdWord)].any (fun r => w &&& r.2 == r.1)
  || (w &&& 0x0000FF == 0x000022 && w &&& 0xFF0000 != 0)

end Sys2Proof.Machine
end

