-- ==== Sys2Proof/Certificates/Slice0/Obligations.lean ====
section
/-! DEFINITION. The statements for the provers. "The device" of a command's statement is the device as the transaction
finds it, after the environment's own steps before that transaction (00_scope.md R9): `s.devNow` for the first one. -/

open Sys2Proof Sys2Proof.Machine

/-! ## Encodings -/

/-- Decoding the word of a well-formed command gives it back (92_eei_decisions.md D30: "Keeps encode and decode of
command words mutually inverse"; the words are decision D1). -/
def Obligations.DecodeOfEncodeIsTheCommand : Prop :=
  ∀ i : Instr, i.wellFormed = true → decode (encode i) = .ok i

/-- A word that decodes is the word of the well-formed command it decodes to: no bit of it is dropped (D30). -/
def Obligations.EncodeOfDecodeIsTheWord : Prop :=
  ∀ (w : CmdWord) (i : Instr), decode w = .ok i → i.wellFormed = true ∧ encode i = w

/-- The decoder accepts exactly the words of the opcode map (30_encoding.md sections 1, 6 and 7; opcode numbers are
decision D1). -/
def Obligations.DecoderAcceptsExactlyTheOpcodeMap : Prop :=
  ∀ w : CmdWord, (∃ i, decode w = .ok i) ↔ legalWord w = true

/-- Words of 95_test_vectors.md V1 and of the programs P1 to P5 decode as listed there. -/
def Obligations.ListedWordsDecodeAsListed : Prop :=
  decode 0x000030 = .ok .getst ∧ decode 0x000130 = .error .unusedOperand ∧ decode 0x000240 = .ok .rdaxisZ ∧
  decode 0x000340 = .error .axisCode ∧ decode 0x000022 = .error .burstLength ∧
  decode 0xFF0B22 = .ok (.rdburst 0x0B 0xFF) ∧ decode 0x00C132 = .ok (.setc2 ⟨true, true, true⟩) ∧
  decode 0x000232 = .error .flagOperand ∧ decode 0x00DC50 = .ok (.new ⟨.odr200, .osr64, .rng8G⟩) ∧
  decode 0x002050 = .error .settingsOperand ∧ decode 0x7F0B21 = .ok (.wrb 0x0B 0x7F) ∧
  decode 0x003011 = .ok (.decset 0x30) ∧ decode 0x000042 = .ok .rdtemp ∧ decode 0x000058 = .error .unknownOpcode

/-! ## Reset, the command port, the invariant -/

/-- After power-on the block is Uninitialized and idle, and SOFT_RST and ROL_PNT of the device are 0; the other device
registers, the pointer and `measuring` are draws (10_state.md section 4, held as logs 3, 4 and 12 say; `standby = 0` is
decision D8; no response out is the model's choice, log 15). -/
def Obligations.ResetLeavesTheBlockUninitialized : Prop :=
  State.reset.init = false ∧ State.reset.standby = false ∧ State.reset.busy = false ∧
  State.reset.lifecycle = .uninitialized ∧ State.reset.dev.measuring = .free ∧
  State.reset.dev.ptr = Config.freePtr 0 ∧ State.reset.resp = none ∧
  (State.reset.dev.reg 0x0A).getLsbD 7 = false ∧ (State.reset.dev.reg 0x0A).getLsbD 6 = false ∧
  ∀ a, a ≠ 0x0A → State.reset.dev.reg a = Config.residue 0 a

/-- An idle block that is handed a command word performs that command, whole, on the state with the word taken from the
port (70_reset_and_hazards.md section 4; the port as a list is the model's choice, log 14). -/
def Obligations.StepRunsTheDecodedCommand : Prop :=
  ∀ (s : State) (w : CmdWord) (rest : List CmdWord) (i : Instr),
    s.busy = false → s.cmds = w :: rest → decode w = .ok i → step s = exec i { s with cmds := rest }

/-- A word that does not decode is answered IllegalCommand with the word: no transaction, no change of the lifecycle
bits or of the device (30_encoding.md section 7, decision D1). -/
def Obligations.IllegalWordIsAnsweredIllegalCommand : Prop :=
  ∀ (s : State) (w : CmdWord) (rest : List CmdWord),
    s.busy = false → s.cmds = w :: rest → legalWord w = false →
    ∃ t, step s = .next t ∧ Ended { s with cmds := rest } t (.illegalCommand w) ∧ NoBus s t

/-- An idle block with no command waiting stays as it is (10_state.md section 4; the idle step is the model's, log
14). -/
def Obligations.IdleBlockWaitsUnchanged : Prop :=
  ∀ s : State, s.busy = false → s.cmds = [] → step s = .next s

/-- The invariant of the machine holds after power-on. -/
def Obligations.InvariantHoldsAtReset : Prop := State.reset.Inv

/-- Every step keeps the invariant: the register file in canonical form over the map, `standby = 1` implies `init = 1`,
an idle sequencer holds nothing, no response while a command is in progress, at most three transactions, all to bus
address 0x0D, of which only the last can have failed. -/
def Obligations.StepKeepsTheInvariant : Prop :=
  ∀ s t : State, s.Inv → step s = .next t → t.Inv

/-! ## Rules of the whole machine -/

/-- Only NEW writes `init` (10_state.md section 1, decision D5). -/
def Obligations.OnlyNewWritesInit : Prop :=
  ∀ (i : Instr) (s t : State), exec i s = .next t → isNew i = false → t.init = s.init

/-- `standby` is 1 after a command only where a STBY has just succeeded, or where it was 1 and the command made no
transaction and was not NEW (10_state.md section 1). -/
def Obligations.OnlySuccessfulStbySetsStandby : Prop :=
  ∀ (i : Instr) (s t : State), exec i s = .next t → t.standby = true →
    (i = .stby ∧ t.resp = some (.ok .nothing)) ∨ (s.standby = true ∧ t.bus = [] ∧ isNew i = false)

/-- The transition table of the lifecycle, on the two bits, for every command that ends (44_device_controller.md section
1, decision D19). -/
def Obligations.LifecycleFollowsTheTransitionTable : Prop :=
  ∀ (i : Instr) (s t : State), exec i s = .next t → t.busy = false →
    (isPure i = true → t.init = s.init ∧ t.standby = s.standby) ∧
    (isNew i = true → t.standby = false ∧ (t.init = true ↔ t.resp = some (.ok .nothing))) ∧
    (needsInit i = true → s.init = false →
      t.init = false ∧ t.standby = s.standby ∧ t.resp = some .notInitialized ∧ t.bus = []) ∧
    (needsInit i = true → s.init = true →
      t.init = true ∧ (t.standby = true ↔ i = .stby ∧ t.resp = some (.ok .nothing)))

/-- `standby` decides nothing: from two states that differ in it alone, so with the same environment and the same draws, a
command has the same transactions, the same response and the same effect on the device and on `init` (10_state.md
section 1, "No command's bus behaviour depends on it"). -/
def Obligations.StandbyFlagDecidesNothing : Prop :=
  ∀ (i : Instr) (s t : State) (b : Bool), exec i s = .next t →
    ∃ t', exec i { s with standby := b } = .next t' ∧ t'.bus = t.bus ∧ t'.resp = t.resp ∧ t'.dev = t.dev ∧
      t'.init = t.init ∧ t'.busy = t.busy

/-- Every command but ENCSET, DECSET and NEW, issued with `init = 0`, answers NotInitialized, makes no transaction and
changes neither bit nor the device (60_exceptions.md section 6, decision D19). -/
def Obligations.CommandBeforeNewIsNotInitialized : Prop :=
  ∀ (i : Instr) (s : State), needsInit i = true → s.init = false →
    ∃ t, exec i s = .next t ∧ Ended s t .notInitialized ∧ NoBus s t

/-- R140: ENCSET and DECSET make no transaction, read and write neither bit nor any device register, and their response
depends on the operand alone, in every state. -/
def Obligations.BitCodecCommandsAreFunctionsOfTheirOperand : Prop :=
  ∀ i : Instr, isPure i = true →
    ∃ r, ∀ s : State, ∃ t, exec i s = .next t ∧ t.resp = some r ∧ t.busy = false ∧ NoBus s t

/-- A command either ends with exactly one response or is still in progress with none (30_encoding.md section 2,
10_state.md section 1). -/
def Obligations.CommandEndsWithOneResponse : Prop :=
  ∀ (i : Instr) (s t : State), exec i s = .next t → (t.busy = false ↔ t.resp.isSome = true)

/-! ## Errors -/

/-- Where the first transaction of a command fails with `e`: the response is TransportError(e), that transaction was the
only one, `standby` is 0, `init` is 0 after NEW and unchanged after any other command, and every register and hidden bit
of the device is a free value (60_exceptions.md section 4, 20_memory.md section 5; the free values are log 10). -/
def Obligations.FirstTransactionFailureEndsTheCommand : Prop :=
  ∀ (i : Instr) (s : State) (e : BusError), isPure i = false → (needsInit i = true → s.init = true) →
    (s.envAt 0).answer = .err e →
    ∃ t op, exec i s = .next t ∧ Ended s t (.transportError e) ∧ Traffic s t [⟨op, .err e⟩] ∧ t.standby = false ∧
      t.init = (!isNew i && s.init) ∧ UnknownEffect s.devNow t.dev

/-- R201: a Transport error is the command's response, unchanged, and the failed transaction is the last one made: it is
not issued again. A TransportError response comes from such a transaction alone. -/
def Obligations.TransportErrorIsPropagatedUnchanged : Prop :=
  ∀ (i : Instr) (s t : State), exec i s = .next t →
    (∀ op e, ⟨op, .err e⟩ ∈ t.bus → t.resp = some (.transportError e) ∧ t.bus.getLast? = some ⟨op, .err e⟩ ∧
      t.bus.count ⟨op, .err e⟩ = 1) ∧
    (∀ e, t.resp = some (.transportError e) → ∃ op, ⟨op, .err e⟩ ∈ t.bus)

/-- InvalidEncoding(v) comes from DECSET v, or from GETSET after a successful read that gave `v`, and only where
`v[5] = 1` (60_exceptions.md section 1). -/
def Obligations.InvalidEncodingComesFromADecodeAlone : Prop :=
  ∀ (i : Instr) (s t : State) (v : Byte), exec i s = .next t → t.resp = some (.invalidEncoding v) →
    v.getLsbD 5 = true ∧
      (i = .decset v ∨ (i = .getset ∧ t.bus = [⟨.writeRead 0x0D 0x09 1, .ok [v]⟩]))

/-- NEW whose second or third write fails: `init` and `standby` are 0, the later writes are not attempted, and the device
as the failed write found it has gone into an unknown state (60_exceptions.md section 4, 20_memory.md section 5; the free
values are log 10). -/
def Obligations.NewFailingLaterStaysUninitialized : Prop :=
  ∀ (set : Settings) (s : State) (e : BusError), (s.envAt 0).answer = .ok →
    ((s.envAt 1).answer = .err e →
      ∃ t, exec (.new set) s = .next t ∧ Ended s t (.transportError e) ∧ t.init = false ∧ t.standby = false ∧
        Traffic s t [⟨.write 0x0D 0x0A 0x80, .ok []⟩, ⟨.write 0x0D 0x0A 0x40, .err e⟩] ∧
        UnknownEffect (s.devFound (s.devNow.afterWrite 0x0A 0x80) 1) t.dev) ∧
    ((s.envAt 1).answer = .ok → (s.envAt 2).answer = .err e →
      ∃ t, exec (.new set) s = .next t ∧ Ended s t (.transportError e) ∧ t.init = false ∧ t.standby = false ∧
        Traffic s t [⟨.write 0x0D 0x0A 0x80, .ok []⟩, ⟨.write 0x0D 0x0A 0x40, .ok []⟩,
          ⟨.write 0x0D 0x09 (encodeSettings set), .err e⟩] ∧
        UnknownEffect (s.devFound ((s.devFound (s.devNow.afterWrite 0x0A 0x80) 1).afterWrite 0x0A 0x40) 2) t.dev)

/-- RESET and STBY whose second transaction fails: `init` is unchanged, `standby` is 0, whatever it was, and the device as
the failed write found it has gone into an unknown state (60_exceptions.md section 4, 20_memory.md section 5; the free
values are log 10). -/
def Obligations.SecondTransactionFailureLeavesStandbyClear : Prop :=
  ∀ (s : State) (e : BusError), s.init = true → (s.envAt 0).answer = .ok → (s.envAt 1).answer = .err e →
    (∃ t, exec .reset s = .next t ∧ Ended s t (.transportError e) ∧ t.init = true ∧ t.standby = false ∧
      Traffic s t [⟨.write 0x0D 0x0A 0x80, .ok []⟩, ⟨.write 0x0D 0x0A 0x40, .err e⟩] ∧
      UnknownEffect (s.devFound (s.devNow.afterWrite 0x0A 0x80) 1) t.dev) ∧
    (∃ t v, exec .stby s = .next t ∧ Ended s t (.transportError e) ∧ t.init = true ∧ t.standby = false ∧
      Traffic s t [⟨.writeRead 0x0D 0x09 1, .ok [v]⟩, ⟨.write 0x0D 0x09 (v &&& 0xFE), .err e⟩] ∧
      UnknownEffect (s.devFound (s.devNow.afterRead 0x09 1) 1) t.dev)

/-- A command whose `k`-th transaction is reached and never returns stays in progress, with no response; that transaction
is its last, `standby` is 0, the device is in an unknown state, and the machine makes no further step. Whenever a command
stays in progress, or its transactions hold one that never returned, it is in progress with no response, its last
transaction is one that never returned, and the machine makes no further step (70_reset_and_hazards.md section 2; the
named stop and the device's free values are the model's, log 11). -/
def Obligations.TransactionThatNeverReturnsBlocksForever : Prop :=
  (∀ (i : Instr) (s : State) (k : Nat), k < txnCount i → (needsInit i = true → s.init = true) →
    (∀ j < k, (s.envAt j).answer = .ok) → (s.envAt k).answer = .hang →
    ∃ t op, exec i s = .next t ∧ t.busy = true ∧ t.resp = none ∧ t.standby = false ∧ t.bus.length = k + 1 ∧
      t.bus.getLast? = some ⟨op, .hang⟩ ∧ (∀ a, t.dev.reg a = Config.residue t.dev.epoch a) ∧
      t.dev.measuring = .free ∧ step t = .fault .transportNeverReturns) ∧
  ∀ (i : Instr) (s t : State), exec i s = .next t →
    (t.busy = true ∨ ∃ op, ⟨op, .hang⟩ ∈ t.bus) →
      t.busy = true ∧ t.resp = none ∧ t.standby = false ∧ (∃ op, t.bus.getLast? = some ⟨op, .hang⟩) ∧
        step t = .fault .transportNeverReturns

/-- R205: `raise` emits the response with the error's code and info and returns the block to idle, and does nothing else:
the two bits, the command port, the device, the environment and the record of the command's transactions and events are
as they were. -/
def Obligations.RaiseEmitsTheErrorAndIdles : Prop :=
  ∀ (r : Reply) (s : State),
    let t := (raise r s).finish
    t.resp.map Reply.code = some r.code ∧ t.resp.map Reply.info = some r.info ∧ t.busy = false ∧ t.init = s.init ∧
      t.standby = s.standby ∧ t.cmds = s.cmds ∧ t.dev = s.dev ∧ t.env = s.env ∧ t.txns = s.txns ∧ t.bus = s.bus ∧
      t.events = s.events

/-! ## Codecs -/

/-- Round trip over the 32 Settings, and the byte side up to bits 1:0 (40_bitcodec.md laws (a) and (c)). -/
def Obligations.SettingsCodecRoundTrips : Prop :=
  (∀ set : Settings, decodeSettings (encodeSettings set) = some set) ∧
  ∀ (v : Byte) (set : Settings), decodeSettings v = some set → encodeSettings set = (v &&& 0xFC) ||| 0x01

/-- R121: every ODR and OSR code is defined; a decode fails exactly where the RNG code is 0b10 or 0b11. -/
def Obligations.OnlyTheRangeFieldCanFailToDecode : Prop :=
  (∀ c : BitVec 2, codeOdr (valueOdr c) = c ∧ codeOsr (valueOsr c) = c) ∧
  ∀ v : Byte, decodeSettings v = none ↔ (v.extractLsb' 4 2 = 0b10 ∨ v.extractLsb' 4 2 = 0b11)

/-- R111: the Status masks 0b100, 0b010, 0b001; a byte is read by masking, bits 7:3 are dropped with no check. -/
def Obligations.StatusByteIsReadByMasking : Prop :=
  ∀ v : Byte, (statusOfByte v).dor = (v &&& 0b100 != 0) ∧ (statusOfByte v).ovl = (v &&& 0b010 != 0) ∧
    (statusOfByte v).drdy = (v &&& 0b001 != 0) ∧ ∀ u : Byte, statusOfByte ((v &&& 0x07) ||| (u &&& 0xF8)) = statusOfByte v

/-- R112: the Control2 masks 0x80, 0x40, 0x01; a byte is read by masking, bits 5:1 are dropped; a written Control2 is the
bitset's byte, bits 5:1 zero. -/
def Obligations.Control2ByteIsReadAndWrittenByMasking : Prop :=
  (∀ v : Byte, (control2OfByte v).softRst = (v &&& 0x80 != 0) ∧ (control2OfByte v).rolPnt = (v &&& 0x40 != 0) ∧
    (control2OfByte v).intEnb = (v &&& 0x01 != 0) ∧
    ∀ u : Byte, control2OfByte ((v &&& 0xC1) ||| (u &&& 0x3E)) = control2OfByte v) ∧
  ∀ c : Control2, byteOfControl2 c =
    (if c.softRst then 0x80 else 0) ||| (if c.rolPnt then 0x40 else 0) ||| (if c.intEnb then 0x01 else 0)

/-- R115: two bytes, low first, are the signed value of their 16-bit pattern, with no scaling, shift or offset. -/
def Obligations.TwoBytesAreOneSignedValue : Prop :=
  (∀ b0 b1 : Byte, le16s b0 b1 =
    if b1.toNat * 256 + b0.toNat < 32768 then (b1.toNat * 256 + b0.toNat : Int)
    else (b1.toNat * 256 + b0.toNat : Int) - 65536) ∧
  le16s 0x34 0x12 = 0x1234 ∧ le16s 0x00 0x00 = 0 ∧ le16s 0xFF 0x7F = 0x7FFF

/-- R116: the Set/Reset period byte is a signed byte in -128 to 127 with the same eight bits; SETSRP's operand A is the
byte it writes. -/
def Obligations.PeriodByteIsASignedByte : Prop :=
  ∀ v : Byte, sext v = (if v.toNat < 128 then (v.toNat : Int) else (v.toNat : Int) - 256) ∧ -128 ≤ sext v ∧
    sext v ≤ 127 ∧ BitVec.ofInt 8 (sext v) = v ∧ operandA (encode (.setsrp v)) = v ∧
    ∀ s : State, s.init = true → (s.envAt 0).answer = .ok →
      ∃ t, exec (.setsrp v) s = .next t ∧ t.bus = [⟨.write 0x0D 0x0B v, .ok []⟩]

/-- The response port: the five result codes, what each error carries, and the payload bytes of every kind of payload
(30_encoding.md section 2, decision D2). -/
def Obligations.ResponsePortCarriesCodeAndPayload : Prop :=
  (∀ p, (Reply.ok p).code = 0x00 ∧ (Reply.ok p).info = .bytes p.serialize) ∧
  (∀ e, (Reply.transportError e).code = 0x01 ∧ (Reply.transportError e).info = .busError e) ∧
  (∀ v, (Reply.invalidEncoding v).code = 0x02 ∧ (Reply.invalidEncoding v).info = .bytes [v]) ∧
  (∀ w, (Reply.illegalCommand w).code = 0x03 ∧ (Reply.illegalCommand w).info = .word w) ∧
  Reply.notInitialized.code = 0x04 ∧ Reply.notInitialized.info = .bytes [] ∧ Payload.nothing.serialize = [] ∧
  (∀ v : Byte, (Payload.byte v).serialize = [v]) ∧ (∀ bs : List Byte, (Payload.bytes bs).serialize = bs) ∧
  (∀ x0 x1 y0 y1 z0 z1 : Byte, (Payload.axes (le16s x0 x1) (le16s y0 y1) (le16s z0 z1)).serialize =
    [x0, x1, y0, y1, z0, z1]) ∧
  (∀ lo hi : Byte, (Payload.int16 (le16s lo hi)).serialize = [lo, hi]) ∧
  (∀ v : Byte, (Payload.int8 (sext v)).serialize = [v]) ∧
  (∀ v : Byte, (Payload.status (statusOfByte v)).serialize = [v &&& 0x07]) ∧
  (∀ v : Byte, (Payload.control2 (control2OfByte v)).serialize = [v &&& 0xC1]) ∧
  (∀ v set, decodeSettings v = some set → (Payload.settings set).serialize = [v &&& 0xFC]) ∧
  (Payload.bool true).serialize = [0x01] ∧ (Payload.bool false).serialize = [0x00]

/-! ## BitCodec -/

/-- ENCSET responds the packed byte: OSR code in 7:6, RNG code in 5:4, ODR code in 3:2, bit 1 zero, bit 0 one, with the
codes of 30_encoding.md section 4 (decision D15); nothing else changes (40_bitcodec.md, ENCSET). -/
def Obligations.EncsetRespondsThePackedByte : Prop :=
  ∀ (set : Settings) (s : State), ∃ t v, exec (.encset set) s = .next t ∧ Ended s t (.ok (.byte v)) ∧ NoBus s t ∧
    v.extractLsb' 6 2 = codeOsr set.osr ∧ v.extractLsb' 4 2 = codeRng set.rng ∧ v.extractLsb' 2 2 = codeOdr set.odr ∧
    v.getLsbD 1 = false ∧ v.getLsbD 0 = true ∧
    codeOsr set.osr = (match set.osr with | .osr512 => 0b00 | .osr256 => 0b01 | .osr128 => 0b10 | .osr64 => 0b11) ∧
    codeRng set.rng = (match set.rng with | .rng2G => 0b00 | .rng8G => 0b01) ∧
    codeOdr set.odr = (match set.odr with | .odr10 => 0b00 | .odr50 => 0b01 | .odr100 => 0b10 | .odr200 => 0b11)

/-- DECSET of a byte with `v[5] = 0` responds the Settings its three fields name; bits 1:0 are not read; nothing else
changes (40_bitcodec.md, DECSET). -/
def Obligations.DecsetRespondsTheFields : Prop :=
  ∀ (v : Byte) (s : State), v.getLsbD 5 = false →
    ∃ t set, exec (.decset v) s = .next t ∧ Ended s t (.ok (.settings set)) ∧ NoBus s t ∧
      codeOsr set.osr = v.extractLsb' 6 2 ∧ codeRng set.rng = v.extractLsb' 4 2 ∧ codeOdr set.odr = v.extractLsb' 2 2

/-- DECSET of a byte with `v[5] = 1` raises InvalidEncoding(v); nothing else changes (40_bitcodec.md, DECSET). -/
def Obligations.DecsetOfAnUndefinedRangeIsInvalid : Prop :=
  ∀ (v : Byte) (s : State), v.getLsbD 5 = true →
    ∃ t, exec (.decset v) s = .next t ∧ Ended s t (.invalidEncoding v) ∧ NoBus s t

/-! ## RegisterAccess -/

/-- RDB r responds the byte of register `r`, on every bit the spec does not leave open; one read transaction; Status
cleared, the device woken, every other register as it was (41_register_access.md, RDB). -/
def Obligations.RdbRespondsTheRegister : Prop :=
  ∀ (r : Byte) (s : State), s.init = true → (s.envAt 0).answer = .ok →
    ∃ t v, exec (.rdb r) s = .next t ∧ Ended s t (.ok (.byte v)) ∧
      Traffic s t [⟨.writeRead 0x0D r 1, .ok [v]⟩] ∧ t.init = true ∧ t.standby = false ∧ t.events = [] ∧
      v &&& s.devNow.knownBits r.toNat = s.devNow.reg r.toNat &&& s.devNow.knownBits r.toNat ∧
      ReadEffect s.devNow t.dev

/-- WRB to Settings, Set/Reset period, or Control2 with bit 7 zero stores the byte in that register and in no other; a
Settings write decides `measuring` by its bit 0 and its bit 0 reads back as stored from then on; the others wake the
device, after which bit 0 of Settings reads as a draw (41_register_access.md, WRB; 20_memory.md section 5; the draw is log
6). -/
def Obligations.WrbStoresTheRegister : Prop :=
  ∀ (r v : Byte) (s : State), s.init = true → (s.envAt 0).answer = .ok →
    (r = 0x09 ∨ (r = 0x0A ∧ v.getLsbD 7 = false) ∨ r = 0x0B) →
    ∃ t, exec (.wrb r v) s = .next t ∧ Ended s t (.ok .nothing) ∧
      Traffic s t [⟨.write 0x0D r v, .ok []⟩] ∧ t.init = true ∧ t.standby = false ∧ t.events = [] ∧
      StoreEffect s.devNow t.dev r.toNat v ∧
      t.dev.measuring = (if r = 0x09 then (if v.getLsbD 0 then .one else .zero)
        else if s.devNow.measuring = .zero then .one else s.devNow.measuring) ∧
      t.dev.modeFree = (if r = 0x09 then false else if s.devNow.measuring = .zero then true else s.devNow.modeFree)

/-- WRB to Control2 with bit 7 set resets the device: SOFT_RST is 0; ROL_PNT is 0 where the byte has bits 6 and 0 zero
(where it has not, both are free: U6); every other register holds a free value, `measuring` too
(20_memory.md section 5; the free values are logs 3, 4, 9; that an idle sequencer holds zeros is log 13). -/
def Obligations.WrbOfSoftResetResetsTheDevice : Prop :=
  ∀ (v : Byte) (s : State), s.init = true → (s.envAt 0).answer = .ok → v.getLsbD 7 = true →
    ∃ t, exec (.wrb 0x0A v) s = .next t ∧ Ended s t (.ok .nothing) ∧
      Traffic s t [⟨.write 0x0D 0x0A v, .ok []⟩] ∧ t.init = true ∧ t.standby = false ∧ t.events = [] ∧
      (t.dev.reg 0x0A).getLsbD 7 = false ∧ (v.getLsbD 6 = false → v.getLsbD 0 = false → t.dev.rolPnt = false) ∧
      (∀ a, a ≠ 0x0A → t.dev.reg a = Config.residue (s.devNow.epoch + 1) a) ∧ t.dev.measuring = .free ∧
      t.dev.modeFree = true

/-- WRB to a read-only or unlisted address is sent as given and succeeds; every device register then holds a free value
(U5; log 8; that an idle sequencer holds zeros is log 13). -/
def Obligations.WrbElsewhereLeavesTheDeviceUnknown : Prop :=
  ∀ (r v : Byte) (s : State), s.init = true → (s.envAt 0).answer = .ok → r ≠ 0x09 → r ≠ 0x0A → r ≠ 0x0B →
    ∃ t, exec (.wrb r v) s = .next t ∧ Ended s t (.ok .nothing) ∧
      Traffic s t [⟨.write 0x0D r v, .ok []⟩] ∧ t.init = true ∧ t.standby = false ∧ t.events = [] ∧
      UnknownEffect s.devNow t.dev

/-- RDBURST r, n responds `n` bytes of one read transaction. Byte 0 is register `r`; byte `i` is register `r + i` where
ROL_PNT = 1, the address is at most 0x0B and it is not Status; on every bit the spec does not leave open. Status is
cleared, the device woken, every other register as it was; with ROL_PNT = 1 the pointer has advanced by one for each
byte (10_state.md section 3), up to 0x0B (past it: log 12) (41_register_access.md, RDBURST; 20_memory.md section 5). -/
def Obligations.RdburstRespondsConsecutiveRegisters : Prop :=
  ∀ (r n : Byte) (s : State), s.init = true → (s.envAt 0).answer = .ok → n ≠ 0 →
    ∃ t bs, exec (.rdburst r n) s = .next t ∧ Ended s t (.ok (.bytes bs)) ∧ bs.length = n.toNat ∧
      Traffic s t [⟨.writeRead 0x0D r n.toNat, .ok bs⟩] ∧ t.init = true ∧ t.standby = false ∧ t.events = [] ∧
      (∀ i < n.toNat, i = 0 ∨ (s.devNow.rolPnt = true ∧ r.toNat + i ≤ 0x0B ∧ r.toNat + i ≠ 0x06) →
        bs.getD i 0 &&& s.devNow.knownBits (r.toNat + i) =
          s.devNow.reg (r.toNat + i) &&& s.devNow.knownBits (r.toNat + i)) ∧
      ReadEffect s.devNow t.dev ∧
      (s.devNow.rolPnt = true → r.toNat + n.toNat ≤ 0x0B → t.dev.ptr = r + n)

/-- RDBURST r, 1 behaves exactly as RDB r: the same transaction, the same state, the same bytes on the response port
(41_register_access.md, RDBURST). -/
def Obligations.BurstOfOneBehavesAsRdb : Prop :=
  ∀ (r : Byte) (s t : State), exec (.rdb r) s = .next t →
    ∃ t', exec (.rdburst r 1) s = .next t' ∧ t = { t' with resp := t.resp } ∧
      t'.resp.map Reply.code = t.resp.map Reply.code ∧ t'.resp.map Reply.info = t.resp.map Reply.info

/-- Every read clears Status (70_reset_and_hazards.md section 2; 20_memory.md section 5). After each of the twelve single-read commands, and after STBY's read where nothing
else reaches the device before its write, DOR, OVL and DRDY are 0. -/
def Obligations.EveryReadClearsStatus : Prop :=
  ∀ (i : Instr) (s : State), s.init = true → (s.envAt 0).answer = .ok →
    (isSingleRead i = true → ∃ t, exec i s = .next t ∧ t.dev.reg 0x06 &&& 0x07 = 0) ∧
    (i = .stby → (s.envAt 1).answer = .ok → (s.envAt 1).before = [] →
      ∃ t, exec i s = .next t ∧ t.dev.reg 0x06 &&& 0x07 = 0)

/-! ## FlagRegister -/

/-- GETST responds the three flags as they stood before the read, and the read clears them; bits 7:3 are ignored; nothing
is cached (42_flag_register.md, GETST). -/
def Obligations.GetstRespondsTheFlagsAndClearsThem : Prop :=
  ∀ s : State, s.init = true → (s.envAt 0).answer = .ok →
    ∃ t v, exec .getst s = .next t ∧ Ended s t (.ok (.status (statusOfByte (s.devNow.reg 0x06)))) ∧
      Traffic s t [⟨.writeRead 0x0D 0x06 1, .ok [v]⟩] ∧ v &&& 0x07 = s.devNow.reg 0x06 &&& 0x07 ∧ t.init = true ∧
      t.standby = false ∧ Emitted t [.flagsRead 0x06 v] ∧ ReadEffect s.devNow t.dev

/-- GETC2 responds the three Control2 flags; bits 5:1 are dropped (42_flag_register.md, GETC2). -/
def Obligations.Getc2RespondsTheFlags : Prop :=
  ∀ s : State, s.init = true → (s.envAt 0).answer = .ok →
    ∃ t v, exec .getc2 s = .next t ∧ Ended s t (.ok (.control2 (control2OfByte (s.devNow.reg 0x0A)))) ∧
      Traffic s t [⟨.writeRead 0x0D 0x0A 1, .ok [v]⟩] ∧ v &&& 0xC1 = s.devNow.reg 0x0A &&& 0xC1 ∧ t.init = true ∧
      t.standby = false ∧ Emitted t [.flagsRead 0x0A v] ∧ ReadEffect s.devNow t.dev

/-- SETC2 without SOFT_RST stores the bitset's byte in Control2 and changes no other register (42_flag_register.md,
SETC2). -/
def Obligations.Setc2StoresTheBitset : Prop :=
  ∀ (f : Control2) (s : State), s.init = true → (s.envAt 0).answer = .ok → f.softRst = false →
    ∃ t, exec (.setc2 f) s = .next t ∧ Ended s t (.ok .nothing) ∧
      Traffic s t [⟨.write 0x0D 0x0A (byteOfControl2 f), .ok []⟩] ∧ t.init = true ∧ t.standby = false ∧
      Emitted t [.flagsWritten (byteOfControl2 f)] ∧ StoreEffect s.devNow t.dev 0x0A (byteOfControl2 f) ∧
      t.dev.measuring = (if s.devNow.measuring = .zero then .one else s.devNow.measuring) ∧
      t.dev.modeFree = (if s.devNow.measuring = .zero then true else s.devNow.modeFree)

/-- SETC2 with SOFT_RST resets the device: SOFT_RST reads 0, ROL_PNT is 0 where it is the only flag, and every other
register holds a free value (42_flag_register.md, SETC2; logs 3, 4, 9; that an idle sequencer holds zeros is log 13). -/
def Obligations.Setc2OfSoftRstResetsTheDevice : Prop :=
  ∀ (f : Control2) (s : State), s.init = true → (s.envAt 0).answer = .ok → f.softRst = true →
    ∃ t, exec (.setc2 f) s = .next t ∧ Ended s t (.ok .nothing) ∧
      Traffic s t [⟨.write 0x0D 0x0A (byteOfControl2 f), .ok []⟩] ∧ t.init = true ∧ t.standby = false ∧
      Emitted t [.flagsWritten (byteOfControl2 f)] ∧ (t.dev.reg 0x0A).getLsbD 7 = false ∧
      (f.rolPnt = false → f.intEnb = false → t.dev.rolPnt = false) ∧
      (∀ a, a ≠ 0x0A → t.dev.reg a = Config.residue (s.devNow.epoch + 1) a) ∧ t.dev.measuring = .free ∧
      t.dev.modeFree = true

/-- SETC2 writes the bitset's whole byte, so a flag left out is written 0, and INT_ENB alone clears ROL_PNT
(70_reset_and_hazards.md section 2). -/
def Obligations.Setc2WritesTheFlagsLeftOutAsZero : Prop :=
  ∀ (f : Control2) (s : State), s.init = true → (s.envAt 0).answer = .ok →
    ∃ t v, exec (.setc2 f) s = .next t ∧ t.bus = [⟨.write 0x0D 0x0A v, .ok []⟩] ∧ control2OfByte v = f ∧
      v &&& 0x3E = 0 ∧ (f = ⟨false, false, true⟩ → t.dev.rolPnt = false ∧ (t.dev.reg 0x0A).getLsbD 0 = true)

/-! ## AxisDataReader -/

/-- RDAXIS X, Y and Z each respond the signed value of two bytes of one read transaction at 0x00, 0x02, 0x04, low byte
first: the low byte is the register at the offset, the high byte the next one where ROL_PNT = 1 (and free where it is
0: U2, log 7). Status is cleared and the device woken, every other register as it was (43_axis_data_reader.md,
RDAXIS; that an idle sequencer holds zeros is log 13). -/
def Obligations.RdaxisRespondsTheAxisValue : Prop :=
  ∀ (s : State) (ax : Axis), s.init = true → (s.envAt 0).answer = .ok →
    ∃ t hi, exec (match ax with | .x => .rdaxisX | .y => .rdaxisY | .z => .rdaxisZ) s = .next t ∧
      Ended s t (.ok (.int16 (le16s (s.devNow.reg (match ax with | .x => 0 | .y => 2 | .z => 4)) hi))) ∧
      Traffic s t [⟨.writeRead 0x0D (match ax with | .x => 0x00 | .y => 0x02 | .z => 0x04) 2,
        .ok [s.devNow.reg (match ax with | .x => 0 | .y => 2 | .z => 4), hi]⟩] ∧
      (s.devNow.rolPnt = true → hi = s.devNow.reg (match ax with | .x => 1 | .y => 3 | .z => 5)) ∧
      t.init = true ∧ t.standby = false ∧ t.events = [] ∧ ReadEffect s.devNow t.dev

/-- RDALL responds the three signed values of one six-byte read transaction at 0x00, in X, Y, Z order; with ROL_PNT = 1
they are the six data registers, and with ROL_PNT = 0 byte 0 alone is (U2, log 7) (43_axis_data_reader.md, RDALL;
that an idle sequencer holds zeros is log 13). -/
def Obligations.RdallRespondsTheThreeAxes : Prop :=
  ∀ s : State, s.init = true → (s.envAt 0).answer = .ok →
    ∃ t b0 b1 b2 b3 b4 b5, exec .rdall s = .next t ∧
      Ended s t (.ok (.axes (le16s b0 b1) (le16s b2 b3) (le16s b4 b5))) ∧
      Traffic s t [⟨.writeRead 0x0D 0x00 6, .ok [b0, b1, b2, b3, b4, b5]⟩] ∧ b0 = s.devNow.reg 0 ∧
      (s.devNow.rolPnt = true → b1 = s.devNow.reg 1 ∧ b2 = s.devNow.reg 2 ∧ b3 = s.devNow.reg 3 ∧
        b4 = s.devNow.reg 4 ∧ b5 = s.devNow.reg 5) ∧
      t.init = true ∧ t.standby = false ∧ t.events = [] ∧ ReadEffect s.devNow t.dev

/-- RDTEMP responds the signed value of two bytes of one read transaction at 0x07, low byte first; the high byte is
register 0x08 where ROL_PNT = 1 (and free where it is 0: U2, log 7) (43_axis_data_reader.md, RDTEMP; that an idle
sequencer holds zeros is log 13). -/
def Obligations.RdtempRespondsTheTemperature : Prop :=
  ∀ s : State, s.init = true → (s.envAt 0).answer = .ok →
    ∃ t hi, exec .rdtemp s = .next t ∧ Ended s t (.ok (.int16 (le16s (s.devNow.reg 7) hi))) ∧
      Traffic s t [⟨.writeRead 0x0D 0x07 2, .ok [s.devNow.reg 7, hi]⟩] ∧
      (s.devNow.rolPnt = true → hi = s.devNow.reg 8) ∧
      t.init = true ∧ t.standby = false ∧ t.events = [] ∧ ReadEffect s.devNow t.dev

/-! ## DeviceController -/

/-- NEW, in every lifecycle state, makes three writes in order, 0x80 and 0x40 to Control2 and the Settings byte to 0x09,
and leaves the block Active and the device measuring with those Settings; where nothing else reaches the device before
the third write, Control2 holds ROL_PNT alone (44_device_controller.md, NEW). The third write changes Settings alone,
and bit 0 of Settings reads as stored from then on (log 6). -/
def Obligations.NewResetsAndConfiguresTheDevice : Prop :=
  ∀ (set : Settings) (s : State), (s.envAt 0).answer = .ok → (s.envAt 1).answer = .ok → (s.envAt 2).answer = .ok →
    ∃ t, exec (.new set) s = .next t ∧ Ended s t (.ok .nothing) ∧
      Traffic s t [⟨.write 0x0D 0x0A 0x80, .ok []⟩, ⟨.write 0x0D 0x0A 0x40, .ok []⟩,
        ⟨.write 0x0D 0x09 (encodeSettings set), .ok []⟩] ∧
      t.init = true ∧ t.standby = false ∧ t.lifecycle = .active ∧
      Emitted t [.resetStart, .settingsApplied (encodeSettings set)] ∧
      StoreEffect (s.devFound ((s.devFound (s.devNow.afterWrite 0x0A 0x80) 1).afterWrite 0x0A 0x40) 2) t.dev 0x09
        (encodeSettings set) ∧
      t.dev.measuring = .one ∧ t.dev.modeFree = false ∧
      ((s.envAt 2).before = [] → t.dev.reg 0x0A &&& 0xC1 = 0x40)

/-- RESET makes two writes in order, 0x80 and 0x40 to Control2, and changes no bit of the block but `standby`, which is
0; the second write stores 0x40 and changes Control2 alone; where nothing else reaches the device between the two, every
other register holds a free value (44_device_controller.md, RESET; log 3). -/
def Obligations.ResetPulsesThenEnablesRollover : Prop :=
  ∀ s : State, s.init = true → (s.envAt 0).answer = .ok → (s.envAt 1).answer = .ok →
    ∃ t, exec .reset s = .next t ∧ Ended s t (.ok .nothing) ∧
      Traffic s t [⟨.write 0x0D 0x0A 0x80, .ok []⟩, ⟨.write 0x0D 0x0A 0x40, .ok []⟩] ∧
      t.init = true ∧ t.standby = false ∧ Emitted t [.resetStart] ∧
      StoreEffect (s.devFound (s.devNow.afterWrite 0x0A 0x80) 1) t.dev 0x0A 0x40 ∧ t.dev.rolPnt = true ∧
      ((s.envAt 1).before = [] →
        (∀ a, a ≠ 0x0A → t.dev.reg a = Config.residue (s.devNow.epoch + 1) a) ∧ t.dev.measuring = .free ∧
        t.dev.modeFree = true)

/-- STBY reads Settings and writes the byte it read back with bit 0 clear and every other bit as read, undecoded, even
where another master has written Settings in between; the block is then in Standby and so is the device, bit 0 of
Settings reads as stored until the next access wakes it (log 6), and no other register changes by the write
(44_device_controller.md, STBY; 20_memory.md section 7). -/
def Obligations.StbyClearsTheModeBitAndSetsStandby : Prop :=
  ∀ s : State, s.init = true → (s.envAt 0).answer = .ok → (s.envAt 1).answer = .ok →
    ∃ t v, exec .stby s = .next t ∧ Ended s t (.ok .nothing) ∧
      Traffic s t [⟨.writeRead 0x0D 0x09 1, .ok [v]⟩, ⟨.write 0x0D 0x09 (v &&& 0xFE), .ok []⟩] ∧
      v &&& s.devNow.knownBits 0x09 = s.devNow.reg 0x09 &&& s.devNow.knownBits 0x09 ∧
      t.init = true ∧ t.standby = true ∧ t.lifecycle = .standby ∧ t.events = [] ∧
      StoreEffect (s.devFound (s.devNow.afterRead 0x09 1) 1) t.dev 0x09 (v &&& 0xFE) ∧ t.dev.measuring = .zero ∧
      t.dev.modeFree = false

/-- ISRDY responds DRDY as it stood before the read, and the read clears the three flags; "not ready" is no error
(44_device_controller.md, ISRDY). -/
def Obligations.IsrdyRespondsDrdyAndClearsIt : Prop :=
  ∀ s : State, s.init = true → (s.envAt 0).answer = .ok →
    ∃ t v, exec .isrdy s = .next t ∧ Ended s t (.ok (.bool ((s.devNow.reg 0x06).getLsbD 0))) ∧
      Traffic s t [⟨.writeRead 0x0D 0x06 1, .ok [v]⟩] ∧ v &&& 0x07 = s.devNow.reg 0x06 &&& 0x07 ∧
      t.init = true ∧ t.standby = false ∧ t.events = [] ∧ ReadEffect s.devNow t.dev

/-- CHSET stores the Settings byte, bit 0 one and bit 1 zero, in 0x09 and changes no other register; the device measures,
and bit 0 of Settings reads as stored from then on (log 6) (44_device_controller.md, CHSET). -/
def Obligations.ChsetStoresTheSettings : Prop :=
  ∀ (set : Settings) (s : State), s.init = true → (s.envAt 0).answer = .ok →
    ∃ t, exec (.chset set) s = .next t ∧ Ended s t (.ok .nothing) ∧
      Traffic s t [⟨.write 0x0D 0x09 (encodeSettings set), .ok []⟩] ∧ t.init = true ∧ t.standby = false ∧
      Emitted t [.settingsApplied (encodeSettings set)] ∧
      StoreEffect s.devNow t.dev 0x09 (encodeSettings set) ∧ t.dev.measuring = .one ∧ t.dev.modeFree = false

/-- GETSET of a register whose bit 5 is 0 responds the Settings of its three fields; bits 1:0 are ignored
(44_device_controller.md, GETSET). -/
def Obligations.GetsetRespondsTheSettings : Prop :=
  ∀ s : State, s.init = true → (s.envAt 0).answer = .ok → (s.devNow.reg 0x09).getLsbD 5 = false →
    ∃ t v set, exec .getset s = .next t ∧ Ended s t (.ok (.settings set)) ∧
      decodeSettings (s.devNow.reg 0x09) = some set ∧ Traffic s t [⟨.writeRead 0x0D 0x09 1, .ok [v]⟩] ∧
      v &&& 0xFC = s.devNow.reg 0x09 &&& 0xFC ∧ t.init = true ∧ t.standby = false ∧ t.events = [] ∧
      ReadEffect s.devNow t.dev

/-- GETSET of a register whose bit 5 is 1 raises InvalidEncoding with the byte it read; the read has happened, with all
its effects (44_device_controller.md, GETSET; 60_exceptions.md section 1). -/
def Obligations.GetsetOfAnUndefinedRangeIsInvalid : Prop :=
  ∀ s : State, s.init = true → (s.envAt 0).answer = .ok → (s.devNow.reg 0x09).getLsbD 5 = true →
    ∃ t v, exec .getset s = .next t ∧ Ended s t (.invalidEncoding v) ∧
      Traffic s t [⟨.writeRead 0x0D 0x09 1, .ok [v]⟩] ∧ v &&& 0xFC = s.devNow.reg 0x09 &&& 0xFC ∧
      t.init = true ∧ t.standby = false ∧ t.events = [] ∧ ReadEffect s.devNow t.dev

/-- GETSRP responds the signed value of register 0x0B (44_device_controller.md, GETSRP; the command is decision D23). -/
def Obligations.GetsrpRespondsTheSignedPeriod : Prop :=
  ∀ s : State, s.init = true → (s.envAt 0).answer = .ok →
    ∃ t, exec .getsrp s = .next t ∧ Ended s t (.ok (.int8 (sext (s.devNow.reg 0x0B)))) ∧
      Traffic s t [⟨.writeRead 0x0D 0x0B 1, .ok [s.devNow.reg 0x0B]⟩] ∧ t.init = true ∧ t.standby = false ∧
      t.events = [] ∧ ReadEffect s.devNow t.dev

/-- SETSRP stores its byte in 0x0B and changes no other register; the device wakes (44_device_controller.md, SETSRP; the
command is decision D23). -/
def Obligations.SetsrpStoresThePeriod : Prop :=
  ∀ (v : Byte) (s : State), s.init = true → (s.envAt 0).answer = .ok →
    ∃ t, exec (.setsrp v) s = .next t ∧ Ended s t (.ok .nothing) ∧
      Traffic s t [⟨.write 0x0D 0x0B v, .ok []⟩] ∧ t.init = true ∧ t.standby = false ∧ t.events = [] ∧
      StoreEffect s.devNow t.dev 0x0B v ∧
      t.dev.measuring = (if s.devNow.measuring = .zero then .one else s.devNow.measuring) ∧
      t.dev.modeFree = (if s.devNow.measuring = .zero then true else s.devNow.modeFree)

/-! ## The device -/

/-- A measurement update sets the eight data registers and DRDY, sets DOR and OVL where it says so and leaves them
otherwise, and changes no other register; while `measuring = 0` it changes nothing (20_memory.md section 5). That an
update leaves a flag it does not set is log 19. That an update takes effect where `measuring` is a draw, being the draw
1, and leaves the bit a draw, is the model's choice, log 4. -/
def Obligations.MeasurementUpdateSetsDataAndDrdy : Prop :=
  ∀ (d : Device) (x y z temp : BitVec 16) (dor ovl : Bool),
    (d.measuring = .zero → d.envEvent (.measure x y z temp dor ovl) = d) ∧
    (d.measuring ≠ .zero →
      let d' := d.envEvent (.measure x y z temp dor ovl)
      d'.reg 0 = x.extractLsb' 0 8 ∧ d'.reg 1 = x.extractLsb' 8 8 ∧ d'.reg 2 = y.extractLsb' 0 8 ∧
      d'.reg 3 = y.extractLsb' 8 8 ∧ d'.reg 4 = z.extractLsb' 0 8 ∧ d'.reg 5 = z.extractLsb' 8 8 ∧
      d'.reg 7 = temp.extractLsb' 0 8 ∧ d'.reg 8 = temp.extractLsb' 8 8 ∧ (d'.reg 6).getLsbD 0 = true ∧
      (d'.reg 6).getLsbD 2 = ((d.reg 6).getLsbD 2 || dor) ∧ (d'.reg 6).getLsbD 1 = ((d.reg 6).getLsbD 1 || ovl) ∧
      (∀ a, 0x09 ≤ a → d'.reg a = d.reg a) ∧ d'.measuring = d.measuring)

/-- What each access leaves in `measuring`. A device that a Settings write with bit 0 zero has put in hardware standby
measures again after the next read, and after the next write to Set/Reset period or to Control2 with bit 7 zero, and bit
0 of Settings then reads as a draw (log 6). A Settings write itself decides `measuring` by its bit 0, which then reads as
stored. A Control2 write with bit 7 set, and a write to a read-only or unlisted address, leave `measuring` a draw, whatever
it was (logs 4 and 8) (20_memory.md section 5, 10_state.md section 3). -/
def Obligations.EachAccessDecidesHardwareStandby : Prop :=
  (∀ (d : Device) (v : Byte), (d.afterWrite 0x09 v).measuring = (if v.getLsbD 0 then .one else .zero) ∧
    (d.afterWrite 0x09 v).modeFree = false) ∧
  (∀ d : Device, d.measuring = .zero →
    (∀ (r : Byte) (n : Nat), (d.afterRead r n).measuring = .one ∧ (d.afterRead r n).modeFree = true) ∧
    (∀ v : Byte, (d.afterWrite 0x0B v).measuring = .one ∧ (d.afterWrite 0x0B v).modeFree = true) ∧
    (∀ v : Byte, v.getLsbD 7 = false →
      (d.afterWrite 0x0A v).measuring = .one ∧ (d.afterWrite 0x0A v).modeFree = true)) ∧
  (∀ (d : Device) (v : Byte), v.getLsbD 7 = true → (d.afterWrite 0x0A v).measuring = .free) ∧
  ∀ (d : Device) (r v : Byte), r ≠ 0x09 → r ≠ 0x0A → r ≠ 0x0B → (d.afterWrite r v).measuring = .free
end

