-- ==== Sys2Proof/Laws/Decode.lean ====
section
/-! SUPPORT. The three byte fields of a command word: a packed word has the bytes it was packed from, and a word is the
pack of its own bytes; and what a decode that succeeds has read, format by format and opcode by opcode. -/

namespace Sys2Proof

@[simp] theorem opOf_packWord (op a b : Byte) : opOf (packWord op a b) = op := by
  apply BitVec.eq_of_getLsbD_eq
  intro i hi
  have h1 : i < 16 := by omega
  have h2 : i < 24 := by omega
  simp [opOf, packWord, hi, h1, h2]

@[simp] theorem operandA_packWord (op a b : Byte) : operandA (packWord op a b) = a := by
  apply BitVec.eq_of_getLsbD_eq
  intro i hi
  have h1 : 8 + i < 16 := by omega
  have h2 : 8 + i < 24 := by omega
  simp [operandA, packWord, hi, h1, h2]

@[simp] theorem operandB_packWord (op a b : Byte) : operandB (packWord op a b) = b := by
  apply BitVec.eq_of_getLsbD_eq
  intro i hi
  have h1 : 16 + i - 8 = 8 + i := by omega
  have h2 : 16 + i < 24 := by omega
  have h3 : op.getLsbD (16 + i) = false := BitVec.getLsbD_of_ge _ _ (by omega)
  simp [operandB, packWord, hi, h1, h2, h3]

theorem packWord_fields (w : CmdWord) : packWord (opOf w) (operandA w) (operandB w) = w := by
  apply BitVec.eq_of_getLsbD_eq
  intro i hi
  simp [packWord, opOf, operandA, operandB, BitVec.getLsbD_extractLsb', hi]
  rcases Nat.lt_or_ge i 8 with h | h
  · simp [h, show i < 16 by omega]
  · rcases Nat.lt_or_ge i 16 with h' | h'
    · simp [show ¬ i < 8 by omega, h', show i - 8 < 8 by omega, show 8 + (i - 8) = i by omega,
        BitVec.getLsbD_eq_getElem hi]
    · simp [show ¬ i < 8 by omega, show ¬ i < 16 by omega, show ¬ i - 8 < 8 by omega, show i - 16 < 8 by omega,
        show 16 + (i - 16) = i by omega, BitVec.getLsbD_eq_getElem hi]

/-- Decoding a packed word reads its fields. -/
@[simp] theorem decode_packWord (op a b : Byte) : decode (packWord op a b) = decodeFields op a b := by
  simp [decode]

/-- Decoding a word reads the fields it is packed from. -/
theorem decode_eq_fields (w : CmdWord) : decode w = decodeFields (opOf w) (operandA w) (operandB w) := rfl

/-! ## What a successful decode has read -/

theorem formatN_ok {i j : Instr} {a b : Byte} (h : formatN i a b = .ok j) : a = 0 ∧ b = 0 ∧ j = i := by
  unfold formatN at h
  split_ifs at h with hab
  exact ⟨hab.1, hab.2, (Except.ok.inj h).symm⟩

theorem formatV_ok {f : Byte → Instr} {i : Instr} {a b : Byte} (h : formatV f a b = .ok i) : b = 0 ∧ i = f a := by
  unfold formatV at h
  split_ifs at h with hb
  exact ⟨hb, (Except.ok.inj h).symm⟩

theorem formatRN_ok {i : Instr} {a b : Byte} (h : formatRN a b = .ok i) : b ≠ 0 ∧ i = .rdburst a b := by
  unfold formatRN at h
  split_ifs at h with hb
  exact ⟨hb, (Except.ok.inj h).symm⟩

theorem formatX_ok {i : Instr} {a b : Byte} (h : formatX a b = .ok i) :
    b = 0 ∧ ((a = 0 ∧ i = .rdaxisX) ∨ (a = 1 ∧ i = .rdaxisY) ∨ (a = 2 ∧ i = .rdaxisZ)) := by
  unfold formatX at h
  split_ifs at h with hb h0 h1 h2
  · exact ⟨not_not.1 hb, .inl ⟨h0, (Except.ok.inj h).symm⟩⟩
  · exact ⟨not_not.1 hb, .inr (.inl ⟨h1, (Except.ok.inj h).symm⟩)⟩
  · exact ⟨not_not.1 hb, .inr (.inr ⟨h2, (Except.ok.inj h).symm⟩)⟩

theorem formatF_ok {f : Control2 → Instr} {i : Instr} {a b : Byte} (h : formatF f a b = .ok i) :
    b = 0 ∧ a &&& 0x3E = 0 ∧ i = f (control2OfByte a) := by
  unfold formatF at h
  split_ifs at h with hb ha
  exact ⟨not_not.1 hb, not_not.1 ha, (Except.ok.inj h).symm⟩

theorem formatS_ok {f : Settings → Instr} {i : Instr} {a b : Byte} (h : formatS f a b = .ok i) :
    b = 0 ∧ a.extractLsb' 0 2 = 0 ∧ ∃ s, unpackSettings a = some s ∧ i = f s := by
  unfold formatS at h
  split_ifs at h with hb ha
  split at h
  · rename_i s hs
    exact ⟨not_not.1 hb, not_not.1 ha, s, hs, (Except.ok.inj h).symm⟩
  · exact absurd h (by simp)

/-- A decode that succeeds has one of the 19 opcodes, and its format's decode succeeds. -/
theorem decodeFields_ok {op a b : Byte} {i : Instr} (h : decodeFields op a b = .ok i) :
    (op = 0x10 ∧ formatS .encset a b = .ok i) ∨
    (op = 0x11 ∧ formatV .decset a b = .ok i) ∨
    (op = 0x20 ∧ formatV .rdb a b = .ok i) ∨
    (op = 0x21 ∧ i = .wrb a b) ∨
    (op = 0x22 ∧ formatRN a b = .ok i) ∨
    (op = 0x30 ∧ formatN .getst a b = .ok i) ∨
    (op = 0x31 ∧ formatN .getc2 a b = .ok i) ∨
    (op = 0x32 ∧ formatF .setc2 a b = .ok i) ∨
    (op = 0x40 ∧ formatX a b = .ok i) ∨
    (op = 0x41 ∧ formatN .rdall a b = .ok i) ∨
    (op = 0x42 ∧ formatN .rdtemp a b = .ok i) ∨
    (op = 0x50 ∧ formatS .new a b = .ok i) ∨
    (op = 0x51 ∧ formatN .reset a b = .ok i) ∨
    (op = 0x52 ∧ formatN .stby a b = .ok i) ∨
    (op = 0x53 ∧ formatN .isrdy a b = .ok i) ∨
    (op = 0x54 ∧ formatS .chset a b = .ok i) ∨
    (op = 0x55 ∧ formatN .getset a b = .ok i) ∨
    (op = 0x56 ∧ formatN .getsrp a b = .ok i) ∨
    (op = 0x57 ∧ formatV .setsrp a b = .ok i) := by
  unfold decodeFields at h
  by_cases h0 : op = 0x10
  · rw [if_pos h0] at h; exact .inl ⟨h0, h⟩
  rw [if_neg h0] at h
  by_cases h1 : op = 0x11
  · rw [if_pos h1] at h; exact .inr (.inl ⟨h1, h⟩)
  rw [if_neg h1] at h
  by_cases h2 : op = 0x20
  · rw [if_pos h2] at h; exact .inr (.inr (.inl ⟨h2, h⟩))
  rw [if_neg h2] at h
  by_cases h3 : op = 0x21
  · rw [if_pos h3] at h; exact .inr (.inr (.inr (.inl ⟨h3, (Except.ok.inj h).symm⟩)))
  rw [if_neg h3] at h
  by_cases h4 : op = 0x22
  · rw [if_pos h4] at h; exact .inr (.inr (.inr (.inr (.inl ⟨h4, h⟩))))
  rw [if_neg h4] at h
  by_cases h5 : op = 0x30
  · rw [if_pos h5] at h; exact .inr (.inr (.inr (.inr (.inr (.inl ⟨h5, h⟩)))))
  rw [if_neg h5] at h
  by_cases h6 : op = 0x31
  · rw [if_pos h6] at h; exact .inr (.inr (.inr (.inr (.inr (.inr (.inl ⟨h6, h⟩))))))
  rw [if_neg h6] at h
  by_cases h7 : op = 0x32
  · rw [if_pos h7] at h; exact .inr (.inr (.inr (.inr (.inr (.inr (.inr (.inl ⟨h7, h⟩)))))))
  rw [if_neg h7] at h
  by_cases h8 : op = 0x40
  · rw [if_pos h8] at h; exact .inr (.inr (.inr (.inr (.inr (.inr (.inr (.inr (.inl ⟨h8, h⟩))))))))
  rw [if_neg h8] at h
  by_cases h9 : op = 0x41
  · rw [if_pos h9] at h; exact .inr (.inr (.inr (.inr (.inr (.inr (.inr (.inr (.inr (.inl ⟨h9, h⟩)))))))))
  rw [if_neg h9] at h
  by_cases h10 : op = 0x42
  · rw [if_pos h10] at h; exact .inr (.inr (.inr (.inr (.inr (.inr (.inr (.inr (.inr (.inr (.inl ⟨h10, h⟩))))))))))
  rw [if_neg h10] at h
  by_cases h11 : op = 0x50
  · rw [if_pos h11] at h; exact .inr (.inr (.inr (.inr (.inr (.inr (.inr (.inr (.inr (.inr (.inr (.inl ⟨h11, h⟩)))))))))))
  rw [if_neg h11] at h
  by_cases h12 : op = 0x51
  · rw [if_pos h12] at h; exact .inr (.inr (.inr (.inr (.inr (.inr (.inr (.inr (.inr (.inr (.inr (.inr (.inl ⟨h12, h⟩))))))))))))
  rw [if_neg h12] at h
  by_cases h13 : op = 0x52
  · rw [if_pos h13] at h; exact .inr (.inr (.inr (.inr (.inr (.inr (.inr (.inr (.inr (.inr (.inr (.inr (.inr (.inl ⟨h13, h⟩)))))))))))))
  rw [if_neg h13] at h
  by_cases h14 : op = 0x53
  · rw [if_pos h14] at h; exact .inr (.inr (.inr (.inr (.inr (.inr (.inr (.inr (.inr (.inr (.inr (.inr (.inr (.inr (.inl ⟨h14, h⟩))))))))))))))
  rw [if_neg h14] at h
  by_cases h15 : op = 0x54
  · rw [if_pos h15] at h; exact .inr (.inr (.inr (.inr (.inr (.inr (.inr (.inr (.inr (.inr (.inr (.inr (.inr (.inr (.inr (.inl ⟨h15, h⟩)))))))))))))))
  rw [if_neg h15] at h
  by_cases h16 : op = 0x55
  · rw [if_pos h16] at h; exact .inr (.inr (.inr (.inr (.inr (.inr (.inr (.inr (.inr (.inr (.inr (.inr (.inr (.inr (.inr (.inr (.inl ⟨h16, h⟩))))))))))))))))
  rw [if_neg h16] at h
  by_cases h17 : op = 0x56
  · rw [if_pos h17] at h; exact .inr (.inr (.inr (.inr (.inr (.inr (.inr (.inr (.inr (.inr (.inr (.inr (.inr (.inr (.inr (.inr (.inr (.inl ⟨h17, h⟩)))))))))))))))))
  rw [if_neg h17] at h
  by_cases h18 : op = 0x57
  · rw [if_pos h18] at h; exact .inr (.inr (.inr (.inr (.inr (.inr (.inr (.inr (.inr (.inr (.inr (.inr (.inr (.inr (.inr (.inr (.inr (.inr (⟨h18, h⟩))))))))))))))))))
  rw [if_neg h18] at h
  cases h

end Sys2Proof
end

