-- ==== Sys2Proof/Laws/Device.lean ====
section
/-! SUPPORT. What each operation of the reference device leaves in each register, and that each keeps the register file
in canonical form over the registers of the map. -/

namespace Sys2Proof.Machine

/-! ## The value a register holds -/

theorem Device.reg_write_same (d : Device) (a : Nat) (v : Byte) (e : Device) (h : e.mem = d.mem.write a v) :
    e.reg a = v := by
  simp [Device.reg, h]

theorem Device.reg_write_other (d e : Device) (a b : Nat) (v : Byte) (h : e.mem = d.mem.write a v)
    (he : e.epoch = d.epoch) (hb : b ≠ a) : e.reg b = d.reg b := by
  simp [Device.reg, h, he, Memory.read_write_other _ _ _ _ hb]

@[simp] theorem Device.wake_reg (d : Device) (a : Nat) : d.wake.reg a = d.reg a := rfl
@[simp] theorem Device.wake_mem (d : Device) : d.wake.mem = d.mem := rfl
@[simp] theorem Device.wake_epoch (d : Device) : d.wake.epoch = d.epoch := rfl
@[simp] theorem Device.wake_rolPnt (d : Device) : d.wake.rolPnt = d.rolPnt := rfl
@[simp] theorem Device.wake_measuring (d : Device) :
    d.wake.measuring = if d.measuring = .zero then .one else d.measuring := rfl
@[simp] theorem Device.wake_modeFree (d : Device) :
    d.wake.modeFree = if d.measuring = .zero then true else d.modeFree := rfl

theorem Device.afterRead_status (d : Device) (addr : Byte) (n : Nat) : (d.afterRead addr n).reg 0x06 = 0 :=
  Device.reg_write_same d _ _ _ rfl

theorem Device.afterRead_reg (d : Device) (addr : Byte) (n a : Nat) (h : a ≠ 0x06) :
    (d.afterRead addr n).reg a = d.reg a :=
  Device.reg_write_other d _ _ _ _ rfl rfl h

@[simp] theorem Device.afterRead_measuring (d : Device) (addr : Byte) (n : Nat) :
    (d.afterRead addr n).measuring = if d.measuring = .zero then .one else d.measuring := rfl

/-- Everything a read transaction leaves in the registers and in `measuring`. -/
theorem Device.afterRead_effect (d : Device) (addr : Byte) (n : Nat) : ReadEffect d (d.afterRead addr n) :=
  ⟨by simp [Device.afterRead_status], fun a h => Device.afterRead_reg d addr n a h, rfl, rfl⟩

theorem Device.store_reg_same (d : Device) (a : Nat) (v : Byte) : (d.store a v).reg a = v :=
  Device.reg_write_same d _ _ _ rfl

theorem Device.store_reg_other (d : Device) (a b : Nat) (v : Byte) (h : b ≠ a) : (d.store a v).reg b = d.reg b :=
  Device.reg_write_other d _ _ _ _ rfl rfl h

@[simp] theorem Device.store_measuring (d : Device) (a : Nat) (v : Byte) : (d.store a v).measuring = d.measuring := rfl
@[simp] theorem Device.store_modeFree (d : Device) (a : Nat) (v : Byte) : (d.store a v).modeFree = d.modeFree := rfl

/-- Everything a plain store leaves in the registers. -/
theorem Device.store_effect (d : Device) (a : Nat) (v : Byte) : StoreEffect d (d.store a v) a v :=
  ⟨d.store_reg_same a v, fun b h => d.store_reg_other a b v h⟩

theorem Device.storeSettings_effect (d : Device) (v : Byte) : StoreEffect d (d.storeSettings v) 0x09 v :=
  ⟨Device.reg_write_same d _ _ _ rfl, fun b h => Device.reg_write_other d _ _ b _ rfl rfl h⟩

@[simp] theorem Device.storeSettings_measuring (d : Device) (v : Byte) :
    (d.storeSettings v).measuring = if v.getLsbD 0 then .one else .zero := rfl
@[simp] theorem Device.storeSettings_modeFree (d : Device) (v : Byte) : (d.storeSettings v).modeFree = false := rfl

/-! ## A write transaction, register by register -/

@[simp] theorem Device.afterWrite_settings (d : Device) (v : Byte) :
    d.afterWrite 9#8 v = d.wake.storeSettings v := by simp [Device.afterWrite]

theorem Device.afterWrite_control2 (d : Device) (v : Byte) :
    d.afterWrite 10#8 v = if v.getLsbD 7 then d.softReset v else d.wake.store 0x0A v := by simp [Device.afterWrite]

@[simp] theorem Device.afterWrite_period (d : Device) (v : Byte) :
    d.afterWrite 11#8 v = d.wake.store 0x0B v := by simp [Device.afterWrite]

theorem Device.afterWrite_other (d : Device) (r v : Byte) (h9 : r ≠ 0x09) (hA : r ≠ 0x0A) (hB : r ≠ 0x0B) :
    d.afterWrite r v = d.unknown := by
  rw [Device.afterWrite, if_neg h9, if_neg hA, if_neg hB]

/-- A Settings write stores its byte and changes no other register. -/
theorem Device.afterWrite_settings_effect (d : Device) (v : Byte) : StoreEffect d (d.afterWrite 9#8 v) 9 v :=
  ⟨(d.wake.storeSettings_effect v).stored, (d.wake.storeSettings_effect v).frame⟩

/-- A Control2 write with bit 7 zero stores its byte and changes no other register. -/
theorem Device.afterWrite_control2_effect (d : Device) (v : Byte) (h : v.getLsbD 7 = false) :
    StoreEffect d (d.afterWrite 10#8 v) 10 v := by
  rw [Device.afterWrite_control2, h]
  exact ⟨(d.wake.store_effect 0x0A v).stored, (d.wake.store_effect 0x0A v).frame⟩

/-- A Set/Reset period write stores its byte and changes no other register. -/
theorem Device.afterWrite_period_effect (d : Device) (v : Byte) : StoreEffect d (d.afterWrite 11#8 v) 11 v :=
  ⟨(d.wake.store_effect 0x0B v).stored, (d.wake.store_effect 0x0B v).frame⟩

/-- A soft reset leaves SOFT_RST 0, and ROL_PNT 0 where the written byte has bits 6 and 0 zero. -/
theorem Device.softReset_control2 (d : Device) (v : Byte) :
    ((d.softReset v).reg 0x0A).getLsbD 7 = false ∧
      (v.getLsbD 6 = false → v.getLsbD 0 = false → (d.softReset v).rolPnt = false) := by
  have k1 : ∀ v : Byte, (v &&& 0x7F).getLsbD 7 = false := by decide
  have k2 : ∀ v : Byte, (v &&& 0x3F).getLsbD 7 = false ∧ (v &&& 0x3F).getLsbD 6 = false := by decide
  have k3 : ∀ v : Byte, v.getLsbD 6 = false → v.getLsbD 0 = false → v &&& 0x41 = 0 := by decide
  have r1 : v &&& 0x41 = 0 → (d.softReset v).reg 0x0A = Config.residue (d.epoch + 1) 0x0A &&& 0x3F := fun h => by
    simp only [Device.softReset, if_pos h]; rfl
  have r2 : v &&& 0x41 ≠ 0 → (d.softReset v).reg 0x0A = Config.residue (d.epoch + 1) 0x0A &&& 0x7F := fun h => by
    simp only [Device.softReset, if_neg h]; rfl
  refine ⟨?_, fun h6 h0 => ?_⟩
  · by_cases h : v &&& 0x41 = 0
    · rw [r1 h]; exact (k2 _).1
    · rw [r2 h]; exact k1 _
  · rw [Device.rolPnt, r1 (k3 v h6 h0)]; exact (k2 _).2

/-- After a soft reset every register but Control2 holds the free value of the new epoch. -/
theorem Device.softReset_reg (d : Device) (v : Byte) (a : Nat) (h : a ≠ 0x0A) :
    (d.softReset v).reg a = Config.residue (d.epoch + 1) a := by
  have h' : ¬ 0x0A = a := fun e => h e.symm
  by_cases hv : v &&& 0x41 = 0
  · simp only [Device.softReset, Device.redraw, Device.reg, if_pos hv, Memory.read, Memory.unlisted, Device.unlisted,
      if_neg h]
  · simp only [Device.softReset, Device.redraw, Device.reg, if_neg hv, Memory.read, Memory.unlisted, Device.unlisted,
      if_neg h, if_neg h']

@[simp] theorem Device.softReset_measuring (d : Device) (v : Byte) : (d.softReset v).measuring = .free := rfl
@[simp] theorem Device.softReset_modeFree (d : Device) (v : Byte) : (d.softReset v).modeFree = true := rfl

/-- A device in an unknown state holds a free value in every register. -/
theorem Device.unknown_reg (d : Device) (a : Nat) : d.unknown.reg a = Config.residue (d.epoch + 1) a := by
  by_cases h : a = 0x0A
  · subst h; rfl
  · have h' : ¬ 0x0A = a := fun e => h e.symm
    simp only [Device.unknown, Device.redraw, Device.reg, Memory.read, Memory.unlisted, Device.unlisted, if_neg h,
      if_neg h']

@[simp] theorem Device.unknown_measuring (d : Device) : d.unknown.measuring = .free := rfl
@[simp] theorem Device.unknown_modeFree (d : Device) : d.unknown.modeFree = true := rfl
@[simp] theorem Device.unknown_epoch (d : Device) : d.unknown.epoch = d.epoch + 1 := rfl

/-- Everything a failed transaction, or a write whose effect is not given, leaves of the device. -/
theorem Device.unknown_effect (d : Device) : UnknownEffect d d.unknown := ⟨d.unknown_reg, rfl, rfl⟩

/-! ## The canonical form, over the registers of the map -/

/-- The register file is in canonical form and lists registers of the map only. -/
abbrev Device.memOk (d : Device) : Prop := d.mem.wf ∧ ∀ c ∈ d.mem, c.1 ≤ 0x0B

theorem Device.memOk_write (d e : Device) (a : Nat) (v : Byte) (h : d.memOk) (ha : a ≤ 0x0B)
    (he : e.mem = d.mem.write a v) : e.memOk := by
  refine ⟨he ▸ Memory.wf_write v h.1 (by omega), fun c hc => ?_⟩
  rcases Memory.mem_write (he ▸ hc) with rfl | hc
  · exact ha
  · exact h.2 c hc

theorem Device.afterRead_memOk (d : Device) (addr : Byte) (n : Nat) (h : d.memOk) : (d.afterRead addr n).memOk :=
  Device.memOk_write d _ 0x06 0 h (by omega) rfl

theorem Device.store_memOk (d : Device) (a : Nat) (v : Byte) (h : d.memOk) (ha : a ≤ 0x0B) : (d.store a v).memOk :=
  Device.memOk_write d _ a v h ha rfl

theorem Device.memOk_nil (d : Device) (h : d.mem = []) : d.memOk := by
  rw [Device.memOk, h]; decide

theorem Device.memOk_control2 (d : Device) (v : Byte) (h : d.mem = [(0x0A, v)]) : d.memOk := by
  rw [Device.memOk, h]; exact ⟨Memory.wf_single _ _ (by omega), by simp⟩

theorem Device.unknown_memOk (d : Device) : d.unknown.memOk := Device.memOk_control2 _ _ rfl

theorem Device.redraw_memOk (d : Device) : d.redraw.memOk := Device.memOk_nil _ rfl

theorem Device.softReset_memOk (d : Device) (v : Byte) : (d.softReset v).memOk := by
  by_cases h : v &&& 0x41 = 0
  · exact Device.memOk_nil _ (if_pos h)
  · exact Device.memOk_control2 _ _ (if_neg h)

theorem Device.afterWrite_memOk (d : Device) (r v : Byte) (h : d.memOk) : (d.afterWrite r v).memOk := by
  simp only [Device.afterWrite]
  split_ifs
  · exact Device.memOk_write d _ 0x09 v h (by omega) rfl
  · exact d.softReset_memOk v
  · exact Device.store_memOk d.wake 0x0A v h (by omega)
  · exact Device.store_memOk d.wake 0x0B v h (by omega)
  · exact d.unknown_memOk

theorem Device.update_memOk (d : Device) (x y z temp : BitVec 16) (dor ovl : Bool) (h : d.memOk) :
    (d.update x y z temp dor ovl).memOk := by
  simp only [Device.update]
  split
  · refine ⟨Memory.wf_writeAll _ (Memory.wf_write _ (Memory.wf_writeAll _ h.1 (by simp [bytesLE])) (by omega))
      (by simp [bytesLE]), fun c hc => ?_⟩
    rcases Memory.mem_writeAll hc with hc | hc
    · simp [bytesLE] at hc; omega
    · rcases Memory.mem_write hc with rfl | hc
      · simp
      · rcases Memory.mem_writeAll hc with hc | hc
        · simp [bytesLE] at hc; omega
        · exact h.2 c hc
  · exact h

theorem Device.envEvent_memOk (d : Device) (e : EnvEvent) (h : d.memOk) : (d.envEvent e).memOk := by
  cases e with
  | measure x y z temp dor ovl => exact d.update_memOk x y z temp dor ovl h
  | foreignRead addr n => exact d.afterRead_memOk addr n h
  | foreignWrite addr v => exact d.afterWrite_memOk addr v h
  | disturb => exact d.unknown_memOk
  | powerOn => exact d.redraw_memOk

theorem Device.envEvents_memOk (d : Device) (es : List EnvEvent) (h : d.memOk) : (d.envEvents es).memOk := by
  induction es generalizing d with
  | nil => exact h
  | cons e es ih => exact ih (d.envEvent e) (d.envEvent_memOk e h)

@[simp] theorem Device.envEvents_nil (d : Device) : d.envEvents [] = d := rfl

theorem Device.perform_memOk (d : Device) (op : BusOp) (h : d.memOk) : (d.perform op).memOk := by
  cases op with
  | write a r v => exact d.afterWrite_memOk r v h
  | writeRead a r n => exact d.afterRead_memOk r n h

/-! ## The bytes of a read transaction -/

@[simp] theorem Device.readBytes_length (d : Device) (addr : Byte) (n : Nat) (f : Nat → Byte) :
    (d.readBytes addr n f).length = n := by
  simp [Device.readBytes]

theorem Device.readBytes_getD (d : Device) (addr : Byte) (n i : Nat) (f : Nat → Byte) (h : i < n) :
    (d.readBytes addr n f).getD i 0 = d.burstByte addr.toNat f i := by
  simp [Device.readBytes, h]

/-- The first byte of a read is the register's, as a read gives it (20_memory.md R70). -/
theorem Device.burstByte_zero (d : Device) (a : Nat) (f : Nat → Byte) : d.burstByte a f 0 = d.view a (f 0) := by
  simp [Device.burstByte]

/-- With ROL_PNT = 1 byte `i` is register `a + i`, up to 0x0B and but for Status (20_memory.md R69). -/
theorem Device.burstByte_rol (d : Device) (a i : Nat) (f : Nat → Byte) (h : d.rolPnt = true) (ha : a + i ≤ 0x0B)
    (h6 : a + i ≠ 0x06) : d.burstByte a f i = d.view (a + i) (f i) := by
  simp [Device.burstByte, h, ha, h6]

/-- A register of the map with no open bit reads as it is held. -/
theorem Device.view_plain (d : Device) (a : Nat) (f : Byte) (h : a ≤ 0x0B) (h6 : a ≠ 0x06) (h9 : a ≠ 0x09)
    (hA : a ≠ 0x0A) : d.view a f = d.reg a := by
  simp [Device.view, h, h6, h9, hA]

/-- A byte taken from `r` under mask `m` and from `f` under the other bits agrees with `r` under `m`. -/
theorem masked_known (r f m n : Byte) (h : m &&& n = 0) : ((r &&& m) ||| (f &&& n)) &&& m = r &&& m := by
  have h' : ∀ i : Nat, (m.getLsbD i && n.getLsbD i) = false := fun i => by
    simpa using congrArg (fun v => BitVec.getLsbD v i) h
  apply BitVec.eq_of_getLsbD_eq
  intro i _
  have hi := h' i
  simp only [BitVec.getLsbD_and, BitVec.getLsbD_or]
  cases hm : m.getLsbD i <;> simp_all

/-- A read gives every bit the spec does not leave open as the register holds it; a read finds the device woken. -/
theorem Device.view_known (d : Device) (a : Nat) (f : Byte) :
    d.wake.view a f &&& d.knownBits a = d.reg a &&& d.knownBits a := by
  unfold Device.view Device.knownBits
  by_cases h6 : a = 6
  · simpa [h6] using masked_known _ _ _ _ (by decide)
  by_cases h9 : a = 9
  · subst h9
    by_cases hm : d.measuring = .zero
    · simpa [hm] using masked_known _ _ _ _ (by decide)
    · by_cases hf : d.modeFree
      · simpa [hm, hf] using masked_known _ _ _ _ (by decide)
      · simpa [hm, hf] using masked_known _ _ _ _ (by decide)
  by_cases hA : a = 10
  · simpa [hA] using masked_known _ _ _ _ (by decide)
  by_cases hB : a ≤ 11 <;> simp [h6, h9, hA, hB]

/-- Status as a read gives it, on the three flags. -/
theorem Device.view_status (d : Device) (f : Byte) : d.wake.view 0x06 f &&& 0x07 = d.reg 0x06 &&& 0x07 :=
  d.view_known 0x06 f

/-- Control2 as a read gives it, on the three flags. -/
theorem Device.view_control2 (d : Device) (f : Byte) : d.wake.view 0x0A f &&& 0xC1 = d.reg 0x0A &&& 0xC1 :=
  d.view_known 0x0A f

/-- Settings as a read gives it, on the three typed fields. -/
theorem Device.view_settings (d : Device) (f : Byte) : d.wake.view 0x09 f &&& 0xFC = d.reg 0x09 &&& 0xFC := by
  have h := d.view_known 0x09 f
  have k : d.knownBits 0x09 = 0xFC ∨ d.knownBits 0x09 = 0xFD := by
    simp only [Device.knownBits]
    split_ifs <;> simp_all
  rcases k with k | k <;> rw [k] at h
  · exact h
  · have h2 := congrArg (· &&& (0xFC : Byte)) h
    simpa [BitVec.and_assoc] using h2

end Sys2Proof.Machine
end

