-- ==== Sys2Proof/Laws/State.lean ====
section
/-! SUPPORT. What each named update of the block's state leaves in each field, once, so that no later proof unfolds a
record update. -/

namespace Sys2Proof.Machine

variable (s : State)

/-! ### setInit -/

@[simp] theorem State.setInit_init (b : Bool) : (s.setInit b).init = b := rfl
@[simp] theorem State.setInit_standby (b : Bool) : (s.setInit b).standby = s.standby := rfl
@[simp] theorem State.setInit_busy (b : Bool) : (s.setInit b).busy = s.busy := rfl
@[simp] theorem State.setInit_stepNo (b : Bool) : (s.setInit b).stepNo = s.stepNo := rfl
@[simp] theorem State.setInit_t (b : Bool) : (s.setInit b).t = s.t := rfl
@[simp] theorem State.setInit_buf (b : Bool) : (s.setInit b).buf = s.buf := rfl
@[simp] theorem State.setInit_cmds (b : Bool) : (s.setInit b).cmds = s.cmds := rfl
@[simp] theorem State.setInit_resp (b : Bool) : (s.setInit b).resp = s.resp := rfl
@[simp] theorem State.setInit_bus (b : Bool) : (s.setInit b).bus = s.bus := rfl
@[simp] theorem State.setInit_events (b : Bool) : (s.setInit b).events = s.events := rfl
@[simp] theorem State.setInit_dev (b : Bool) : (s.setInit b).dev = s.dev := rfl
@[simp] theorem State.setInit_env (b : Bool) : (s.setInit b).env = s.env := rfl
@[simp] theorem State.setInit_txns (b : Bool) : (s.setInit b).txns = s.txns := rfl

/-! ### setStandby -/

@[simp] theorem State.setStandby_init (b : Bool) : (s.setStandby b).init = s.init := rfl
@[simp] theorem State.setStandby_standby (b : Bool) : (s.setStandby b).standby = b := rfl
@[simp] theorem State.setStandby_busy (b : Bool) : (s.setStandby b).busy = s.busy := rfl
@[simp] theorem State.setStandby_stepNo (b : Bool) : (s.setStandby b).stepNo = s.stepNo := rfl
@[simp] theorem State.setStandby_t (b : Bool) : (s.setStandby b).t = s.t := rfl
@[simp] theorem State.setStandby_buf (b : Bool) : (s.setStandby b).buf = s.buf := rfl
@[simp] theorem State.setStandby_cmds (b : Bool) : (s.setStandby b).cmds = s.cmds := rfl
@[simp] theorem State.setStandby_resp (b : Bool) : (s.setStandby b).resp = s.resp := rfl
@[simp] theorem State.setStandby_bus (b : Bool) : (s.setStandby b).bus = s.bus := rfl
@[simp] theorem State.setStandby_events (b : Bool) : (s.setStandby b).events = s.events := rfl
@[simp] theorem State.setStandby_dev (b : Bool) : (s.setStandby b).dev = s.dev := rfl
@[simp] theorem State.setStandby_env (b : Bool) : (s.setStandby b).env = s.env := rfl
@[simp] theorem State.setStandby_txns (b : Bool) : (s.setStandby b).txns = s.txns := rfl

/-! ### setT -/

@[simp] theorem State.setT_init (v : Byte) : (s.setT v).init = s.init := rfl
@[simp] theorem State.setT_standby (v : Byte) : (s.setT v).standby = s.standby := rfl
@[simp] theorem State.setT_busy (v : Byte) : (s.setT v).busy = s.busy := rfl
@[simp] theorem State.setT_stepNo (v : Byte) : (s.setT v).stepNo = s.stepNo := rfl
@[simp] theorem State.setT_t (v : Byte) : (s.setT v).t = v := rfl
@[simp] theorem State.setT_buf (v : Byte) : (s.setT v).buf = s.buf := rfl
@[simp] theorem State.setT_cmds (v : Byte) : (s.setT v).cmds = s.cmds := rfl
@[simp] theorem State.setT_resp (v : Byte) : (s.setT v).resp = s.resp := rfl
@[simp] theorem State.setT_bus (v : Byte) : (s.setT v).bus = s.bus := rfl
@[simp] theorem State.setT_events (v : Byte) : (s.setT v).events = s.events := rfl
@[simp] theorem State.setT_dev (v : Byte) : (s.setT v).dev = s.dev := rfl
@[simp] theorem State.setT_env (v : Byte) : (s.setT v).env = s.env := rfl
@[simp] theorem State.setT_txns (v : Byte) : (s.setT v).txns = s.txns := rfl

/-! ### setBuf -/

@[simp] theorem State.setBuf_init (bs : List Byte) : (s.setBuf bs).init = s.init := rfl
@[simp] theorem State.setBuf_standby (bs : List Byte) : (s.setBuf bs).standby = s.standby := rfl
@[simp] theorem State.setBuf_busy (bs : List Byte) : (s.setBuf bs).busy = s.busy := rfl
@[simp] theorem State.setBuf_stepNo (bs : List Byte) : (s.setBuf bs).stepNo = s.stepNo := rfl
@[simp] theorem State.setBuf_t (bs : List Byte) : (s.setBuf bs).t = s.t := rfl
@[simp] theorem State.setBuf_buf (bs : List Byte) : (s.setBuf bs).buf = bs := rfl
@[simp] theorem State.setBuf_cmds (bs : List Byte) : (s.setBuf bs).cmds = s.cmds := rfl
@[simp] theorem State.setBuf_resp (bs : List Byte) : (s.setBuf bs).resp = s.resp := rfl
@[simp] theorem State.setBuf_bus (bs : List Byte) : (s.setBuf bs).bus = s.bus := rfl
@[simp] theorem State.setBuf_events (bs : List Byte) : (s.setBuf bs).events = s.events := rfl
@[simp] theorem State.setBuf_dev (bs : List Byte) : (s.setBuf bs).dev = s.dev := rfl
@[simp] theorem State.setBuf_env (bs : List Byte) : (s.setBuf bs).env = s.env := rfl
@[simp] theorem State.setBuf_txns (bs : List Byte) : (s.setBuf bs).txns = s.txns := rfl

/-! ### tick -/

@[simp] theorem State.tick_init : s.tick.init = s.init := rfl
@[simp] theorem State.tick_standby : s.tick.standby = s.standby := rfl
@[simp] theorem State.tick_busy : s.tick.busy = s.busy := rfl
@[simp] theorem State.tick_stepNo : s.tick.stepNo = s.stepNo + 1 := rfl
@[simp] theorem State.tick_t : s.tick.t = s.t := rfl
@[simp] theorem State.tick_buf : s.tick.buf = s.buf := rfl
@[simp] theorem State.tick_cmds : s.tick.cmds = s.cmds := rfl
@[simp] theorem State.tick_resp : s.tick.resp = s.resp := rfl
@[simp] theorem State.tick_bus : s.tick.bus = s.bus := rfl
@[simp] theorem State.tick_events : s.tick.events = s.events := rfl
@[simp] theorem State.tick_dev : s.tick.dev = s.dev := rfl
@[simp] theorem State.tick_env : s.tick.env = s.env := rfl
@[simp] theorem State.tick_txns : s.tick.txns = s.txns := rfl

/-! ### emit -/

@[simp] theorem State.emit_init (e : DiagEvent) : (s.emit e).init = s.init := rfl
@[simp] theorem State.emit_standby (e : DiagEvent) : (s.emit e).standby = s.standby := rfl
@[simp] theorem State.emit_busy (e : DiagEvent) : (s.emit e).busy = s.busy := rfl
@[simp] theorem State.emit_stepNo (e : DiagEvent) : (s.emit e).stepNo = s.stepNo := rfl
@[simp] theorem State.emit_t (e : DiagEvent) : (s.emit e).t = s.t := rfl
@[simp] theorem State.emit_buf (e : DiagEvent) : (s.emit e).buf = s.buf := rfl
@[simp] theorem State.emit_cmds (e : DiagEvent) : (s.emit e).cmds = s.cmds := rfl
@[simp] theorem State.emit_resp (e : DiagEvent) : (s.emit e).resp = s.resp := rfl
@[simp] theorem State.emit_bus (e : DiagEvent) : (s.emit e).bus = s.bus := rfl
@[simp] theorem State.emit_events (e : DiagEvent) : (s.emit e).events = if Config.diag then s.events ++ [e] else s.events := rfl
@[simp] theorem State.emit_dev (e : DiagEvent) : (s.emit e).dev = s.dev := rfl
@[simp] theorem State.emit_env (e : DiagEvent) : (s.emit e).env = s.env := rfl
@[simp] theorem State.emit_txns (e : DiagEvent) : (s.emit e).txns = s.txns := rfl

/-! ### accept -/

@[simp] theorem State.accept_init : s.accept.init = s.init := rfl
@[simp] theorem State.accept_standby : s.accept.standby = s.standby := rfl
@[simp] theorem State.accept_busy : s.accept.busy = true := rfl
@[simp] theorem State.accept_stepNo : s.accept.stepNo = 1 := rfl
@[simp] theorem State.accept_t : s.accept.t = s.t := rfl
@[simp] theorem State.accept_buf : s.accept.buf = s.buf := rfl
@[simp] theorem State.accept_cmds : s.accept.cmds = s.cmds := rfl
@[simp] theorem State.accept_resp : s.accept.resp = none := rfl
@[simp] theorem State.accept_bus : s.accept.bus = [] := rfl
@[simp] theorem State.accept_events : s.accept.events = [] := rfl
@[simp] theorem State.accept_dev : s.accept.dev = s.dev := rfl
@[simp] theorem State.accept_env : s.accept.env = s.env := rfl
@[simp] theorem State.accept_txns : s.accept.txns = s.txns := rfl

/-! ### close -/

@[simp] theorem State.close_init (r : Reply) : (s.close r).init = s.init := rfl
@[simp] theorem State.close_standby (r : Reply) : (s.close r).standby = s.standby := rfl
@[simp] theorem State.close_busy (r : Reply) : (s.close r).busy = false := rfl
@[simp] theorem State.close_stepNo (r : Reply) : (s.close r).stepNo = 0 := rfl
@[simp] theorem State.close_t (r : Reply) : (s.close r).t = 0 := rfl
@[simp] theorem State.close_buf (r : Reply) : (s.close r).buf = [] := rfl
@[simp] theorem State.close_cmds (r : Reply) : (s.close r).cmds = s.cmds := rfl
@[simp] theorem State.close_resp (r : Reply) : (s.close r).resp = some r := rfl
@[simp] theorem State.close_bus (r : Reply) : (s.close r).bus = s.bus := rfl
@[simp] theorem State.close_events (r : Reply) : (s.close r).events = s.events := rfl
@[simp] theorem State.close_dev (r : Reply) : (s.close r).dev = s.dev := rfl
@[simp] theorem State.close_env (r : Reply) : (s.close r).env = s.env := rfl
@[simp] theorem State.close_txns (r : Reply) : (s.close r).txns = s.txns := rfl

/-! ### transact -/

@[simp] theorem State.transact_init (op : BusOp) : (s.transact op).init = s.init := rfl
@[simp] theorem State.transact_standby (op : BusOp) : (s.transact op).standby = s.standby := rfl
@[simp] theorem State.transact_busy (op : BusOp) : (s.transact op).busy = s.busy := rfl
@[simp] theorem State.transact_stepNo (op : BusOp) : (s.transact op).stepNo = s.stepNo := rfl
@[simp] theorem State.transact_t (op : BusOp) : (s.transact op).t = s.t := rfl
@[simp] theorem State.transact_buf (op : BusOp) : (s.transact op).buf = s.buf := rfl
@[simp] theorem State.transact_cmds (op : BusOp) : (s.transact op).cmds = s.cmds := rfl
@[simp] theorem State.transact_resp (op : BusOp) : (s.transact op).resp = s.resp := rfl
@[simp] theorem State.transact_bus (op : BusOp) : (s.transact op).bus = s.bus ++ [⟨op, s.resultNow op⟩] := rfl
@[simp] theorem State.transact_events (op : BusOp) : (s.transact op).events = s.events := rfl
@[simp] theorem State.transact_dev (op : BusOp) : (s.transact op).dev = s.devAfter op := rfl
@[simp] theorem State.transact_env (op : BusOp) : (s.transact op).env = s.env.tail := rfl
@[simp] theorem State.transact_txns (op : BusOp) : (s.transact op).txns = s.txns + 1 := rfl

/-! ### presentWord -/

@[simp] theorem State.presentWord_init (w : CmdWord) : (s.presentWord w).init = s.init := rfl
@[simp] theorem State.presentWord_standby (w : CmdWord) : (s.presentWord w).standby = s.standby := rfl
@[simp] theorem State.presentWord_busy (w : CmdWord) : (s.presentWord w).busy = false := rfl
@[simp] theorem State.presentWord_stepNo (w : CmdWord) : (s.presentWord w).stepNo = s.stepNo := rfl
@[simp] theorem State.presentWord_t (w : CmdWord) : (s.presentWord w).t = s.t := rfl
@[simp] theorem State.presentWord_buf (w : CmdWord) : (s.presentWord w).buf = s.buf := rfl
@[simp] theorem State.presentWord_cmds (w : CmdWord) : (s.presentWord w).cmds = w :: s.cmds.tail := rfl
@[simp] theorem State.presentWord_resp (w : CmdWord) : (s.presentWord w).resp = s.resp := rfl
@[simp] theorem State.presentWord_bus (w : CmdWord) : (s.presentWord w).bus = s.bus := rfl
@[simp] theorem State.presentWord_events (w : CmdWord) : (s.presentWord w).events = s.events := rfl
@[simp] theorem State.presentWord_dev (w : CmdWord) : (s.presentWord w).dev = s.dev := rfl
@[simp] theorem State.presentWord_env (w : CmdWord) : (s.presentWord w).env = s.env := rfl
@[simp] theorem State.presentWord_txns (w : CmdWord) : (s.presentWord w).txns = s.txns := rfl

/-! ### What the environment does next depends on the script and the count of transactions alone -/

@[simp] theorem State.setInit_envAt (b : Bool) (k : Nat) : (s.setInit b).envAt k = s.envAt k := rfl
@[simp] theorem State.setInit_devNow (b : Bool) : (s.setInit b).devNow = s.devNow := rfl
@[simp] theorem State.setInit_drawNow (b : Bool) : (s.setInit b).drawNow = s.drawNow := rfl
@[simp] theorem State.setInit_resultNow (b : Bool) (op : BusOp) : (s.setInit b).resultNow op = s.resultNow op := rfl
@[simp] theorem State.setInit_devAfter (b : Bool) (op : BusOp) : (s.setInit b).devAfter op = s.devAfter op := rfl
@[simp] theorem State.setStandby_envAt (b : Bool) (k : Nat) : (s.setStandby b).envAt k = s.envAt k := rfl
@[simp] theorem State.setStandby_devNow (b : Bool) : (s.setStandby b).devNow = s.devNow := rfl
@[simp] theorem State.setStandby_drawNow (b : Bool) : (s.setStandby b).drawNow = s.drawNow := rfl
@[simp] theorem State.setStandby_resultNow (b : Bool) (op : BusOp) : (s.setStandby b).resultNow op = s.resultNow op := rfl
@[simp] theorem State.setStandby_devAfter (b : Bool) (op : BusOp) : (s.setStandby b).devAfter op = s.devAfter op := rfl
@[simp] theorem State.setT_envAt (v : Byte) (k : Nat) : (s.setT v).envAt k = s.envAt k := rfl
@[simp] theorem State.setT_devNow (v : Byte) : (s.setT v).devNow = s.devNow := rfl
@[simp] theorem State.setT_drawNow (v : Byte) : (s.setT v).drawNow = s.drawNow := rfl
@[simp] theorem State.setT_resultNow (v : Byte) (op : BusOp) : (s.setT v).resultNow op = s.resultNow op := rfl
@[simp] theorem State.setT_devAfter (v : Byte) (op : BusOp) : (s.setT v).devAfter op = s.devAfter op := rfl
@[simp] theorem State.setBuf_envAt (bs : List Byte) (k : Nat) : (s.setBuf bs).envAt k = s.envAt k := rfl
@[simp] theorem State.setBuf_devNow (bs : List Byte) : (s.setBuf bs).devNow = s.devNow := rfl
@[simp] theorem State.setBuf_drawNow (bs : List Byte) : (s.setBuf bs).drawNow = s.drawNow := rfl
@[simp] theorem State.setBuf_resultNow (bs : List Byte) (op : BusOp) : (s.setBuf bs).resultNow op = s.resultNow op := rfl
@[simp] theorem State.setBuf_devAfter (bs : List Byte) (op : BusOp) : (s.setBuf bs).devAfter op = s.devAfter op := rfl
@[simp] theorem State.tick_envAt (k : Nat) : s.tick.envAt k = s.envAt k := rfl
@[simp] theorem State.tick_devNow : s.tick.devNow = s.devNow := rfl
@[simp] theorem State.tick_drawNow : s.tick.drawNow = s.drawNow := rfl
@[simp] theorem State.tick_resultNow (op : BusOp) : s.tick.resultNow op = s.resultNow op := rfl
@[simp] theorem State.tick_devAfter (op : BusOp) : s.tick.devAfter op = s.devAfter op := rfl
@[simp] theorem State.emit_envAt (e : DiagEvent) (k : Nat) : (s.emit e).envAt k = s.envAt k := rfl
@[simp] theorem State.emit_devNow (e : DiagEvent) : (s.emit e).devNow = s.devNow := rfl
@[simp] theorem State.emit_drawNow (e : DiagEvent) : (s.emit e).drawNow = s.drawNow := rfl
@[simp] theorem State.emit_resultNow (e : DiagEvent) (op : BusOp) : (s.emit e).resultNow op = s.resultNow op := rfl
@[simp] theorem State.emit_devAfter (e : DiagEvent) (op : BusOp) : (s.emit e).devAfter op = s.devAfter op := rfl
@[simp] theorem State.accept_envAt (k : Nat) : s.accept.envAt k = s.envAt k := rfl
@[simp] theorem State.accept_devNow : s.accept.devNow = s.devNow := rfl
@[simp] theorem State.accept_drawNow : s.accept.drawNow = s.drawNow := rfl
@[simp] theorem State.accept_resultNow (op : BusOp) : s.accept.resultNow op = s.resultNow op := rfl
@[simp] theorem State.accept_devAfter (op : BusOp) : s.accept.devAfter op = s.devAfter op := rfl
@[simp] theorem State.close_envAt (r : Reply) (k : Nat) : (s.close r).envAt k = s.envAt k := rfl
@[simp] theorem State.close_devNow (r : Reply) : (s.close r).devNow = s.devNow := rfl
@[simp] theorem State.close_drawNow (r : Reply) : (s.close r).drawNow = s.drawNow := rfl
@[simp] theorem State.close_resultNow (r : Reply) (op : BusOp) : (s.close r).resultNow op = s.resultNow op := rfl
@[simp] theorem State.close_devAfter (r : Reply) (op : BusOp) : (s.close r).devAfter op = s.devAfter op := rfl
@[simp] theorem State.presentWord_envAt (w : CmdWord) (k : Nat) : (s.presentWord w).envAt k = s.envAt k := rfl
@[simp] theorem State.presentWord_devNow (w : CmdWord) : (s.presentWord w).devNow = s.devNow := rfl
@[simp] theorem State.presentWord_drawNow (w : CmdWord) : (s.presentWord w).drawNow = s.drawNow := rfl
@[simp] theorem State.presentWord_resultNow (w : CmdWord) (op : BusOp) : (s.presentWord w).resultNow op = s.resultNow op := rfl
@[simp] theorem State.presentWord_devAfter (w : CmdWord) (op : BusOp) : (s.presentWord w).devAfter op = s.devAfter op := rfl

/-- After one transaction the environment's next step is the one after. -/
@[simp] theorem State.transact_envAt (op : BusOp) (k : Nat) : (s.transact op).envAt k = s.envAt (k + 1) := by
  cases h : s.env <;> simp [State.envAt, State.transact, h, Nat.add_assoc, Nat.add_comm 1 k]

end Sys2Proof.Machine
end

