-- ==== Sys2Proof/Laws/Ops.lean ====
section
/-! SUPPORT. Everything the block's shared operations can do, said once: a transaction, MemRead, MemWrite, the
sequencer, and the two ways a command is run. -/

namespace Sys2Proof.Machine

/-! ## A transaction, by the environment's answer -/

theorem State.resultNow_ok {s : State} (h : (s.envAt 0).answer = .ok) (op : BusOp) :
    s.resultNow op = .ok (s.devNow.answer s.drawNow op) := by simp [State.resultNow, h]

theorem State.resultNow_err {s : State} {e : BusError} (h : (s.envAt 0).answer = .err e) (op : BusOp) :
    s.resultNow op = .err e := by simp [State.resultNow, h]

theorem State.resultNow_hang {s : State} (h : (s.envAt 0).answer = .hang) (op : BusOp) :
    s.resultNow op = .hang := by simp [State.resultNow, h]

theorem State.devAfter_ok {s : State} (h : (s.envAt 0).answer = .ok) (op : BusOp) :
    s.devAfter op = s.devNow.perform op := by simp [State.devAfter, h]

theorem State.devAfter_err {s : State} {e : BusError} (h : (s.envAt 0).answer = .err e) (op : BusOp) :
    s.devAfter op = s.devNow.unknown := by simp [State.devAfter, h]

theorem State.devAfter_hang {s : State} (h : (s.envAt 0).answer = .hang) (op : BusOp) :
    s.devAfter op = s.devNow.unknown := by simp [State.devAfter, h]

/-- After a transaction the device is in canonical form if it was before. -/
theorem State.devAfter_memOk (s : State) (op : BusOp) (h : s.dev.memOk) : (s.devAfter op).memOk := by
  simp only [State.devAfter]
  split
  · exact Device.perform_memOk _ op (s.dev.envEvents_memOk _ h)
  · exact Device.unknown_memOk _
  · exact Device.unknown_memOk _

/-! ## MemRead and MemWrite -/

/-- MemRead: success with the bytes in `buf`, or TransportError, or no return. -/
theorem memRead_cases (addr : Byte) (n : Nat) (s : State) :
    ((s.envAt 0).answer = .ok ∧ memRead addr n s =
        .go (((s.setStandby false).transact (.writeRead Config.busAddr addr n)).setBuf
          (s.devNow.wake.readBytes addr n s.drawNow))) ∨
    (∃ e, (s.envAt 0).answer = .err e ∧ memRead addr n s =
        .stop (.transportError e) ((s.setStandby false).transact (.writeRead Config.busAddr addr n))) ∨
    ((s.envAt 0).answer = .hang ∧ memRead addr n s =
        .hung ((s.setStandby false).transact (.writeRead Config.busAddr addr n))) := by
  cases h : (s.envAt 0).answer with
  | ok => exact .inl ⟨rfl, by simp [memRead, State.resultNow, h, Device.answer]⟩
  | err e => exact .inr (.inl ⟨e, rfl, by simp [memRead, State.resultNow, h, raise]⟩)
  | hang => exact .inr (.inr ⟨rfl, by simp [memRead, State.resultNow, h]⟩)

/-- MemWrite: success, or TransportError, or no return. -/
theorem memWrite_cases (addr v : Byte) (s : State) :
    ((s.envAt 0).answer = .ok ∧ memWrite addr v s =
        .go ((s.setStandby false).transact (.write Config.busAddr addr v))) ∨
    (∃ e, (s.envAt 0).answer = .err e ∧ memWrite addr v s =
        .stop (.transportError e) ((s.setStandby false).transact (.write Config.busAddr addr v))) ∨
    ((s.envAt 0).answer = .hang ∧ memWrite addr v s =
        .hung ((s.setStandby false).transact (.write Config.busAddr addr v))) := by
  cases h : (s.envAt 0).answer with
  | ok => exact .inl ⟨rfl, by simp [memWrite, State.resultNow, h]⟩
  | err e => exact .inr (.inl ⟨e, rfl, by simp [memWrite, State.resultNow, h, raise]⟩)
  | hang => exact .inr (.inr ⟨rfl, by simp [memWrite, State.resultNow, h]⟩)

theorem memRead_ok {s : State} (h : (s.envAt 0).answer = .ok) (addr : Byte) (n : Nat) :
    memRead addr n s = .go (((s.setStandby false).transact (.writeRead Config.busAddr addr n)).setBuf
      (s.devNow.wake.readBytes addr n s.drawNow)) := by
  simp [memRead, State.resultNow, h, Device.answer]

theorem memRead_err {s : State} {e : BusError} (h : (s.envAt 0).answer = .err e) (addr : Byte) (n : Nat) :
    memRead addr n s =
      .stop (.transportError e) ((s.setStandby false).transact (.writeRead Config.busAddr addr n)) := by
  simp [memRead, State.resultNow, h, raise]

theorem memRead_hang {s : State} (h : (s.envAt 0).answer = .hang) (addr : Byte) (n : Nat) :
    memRead addr n s = .hung ((s.setStandby false).transact (.writeRead Config.busAddr addr n)) := by
  simp [memRead, State.resultNow, h]

theorem memWrite_ok {s : State} (h : (s.envAt 0).answer = .ok) (addr v : Byte) :
    memWrite addr v s = .go ((s.setStandby false).transact (.write Config.busAddr addr v)) := by
  simp [memWrite, State.resultNow, h]

theorem memWrite_err {s : State} {e : BusError} (h : (s.envAt 0).answer = .err e) (addr v : Byte) :
    memWrite addr v s = .stop (.transportError e) ((s.setStandby false).transact (.write Config.busAddr addr v)) := by
  simp [memWrite, State.resultNow, h, raise]

theorem memWrite_hang {s : State} (h : (s.envAt 0).answer = .hang) (addr v : Byte) :
    memWrite addr v s = .hung ((s.setStandby false).transact (.write Config.busAddr addr v)) := by
  simp [memWrite, State.resultNow, h]

/-! ## The sequencer -/

@[simp] theorem Seq.andThen_go (s : State) (f : State → Seq) : (Seq.go s).andThen f = f s.tick := rfl
@[simp] theorem Seq.andThen_stop (r : Reply) (s : State) (f : State → Seq) :
    (Seq.stop r s).andThen f = .stop r s := rfl
@[simp] theorem Seq.andThen_hung (s : State) (f : State → Seq) : (Seq.hung s).andThen f = .hung s := rfl
@[simp] theorem Seq.finish_go (s : State) : (Seq.go s).finish = s.close (.ok .nothing) := rfl
@[simp] theorem Seq.finish_stop (r : Reply) (s : State) : (Seq.stop r s).finish = s.close r := rfl
@[simp] theorem Seq.finish_hung (s : State) : (Seq.hung s).finish = s := rfl

/-- The state a sequence has reached. -/
def Seq.state : Seq → State
  | .go s => s
  | .stop _ s => s
  | .hung s => s

/-- What holds of every state the first part reaches and is kept by the second holds at the end. -/
theorem Seq.andThen_state {P : State → Prop} (q : Seq) (f : State → Seq) (hq : P q.state)
    (hf : ∀ s, P s → P (f s.tick).state) : P (q.andThen f).state := by
  cases q with
  | go s => exact hf s hq
  | stop r s => exact hq
  | hung s => exact hq

/-! ## The two ways a command is run -/

theorem runInitialized_init {s : State} (h : s.init = true) (body : State → Seq) :
    runInitialized body s = (body s.accept).finish := by simp [runInitialized, h]

theorem runInitialized_uninit {s : State} (h : s.init = false) (body : State → Seq) :
    runInitialized body s = s.accept.close .notInitialized := by simp [runInitialized, h]

/-! ## Case rules: everything a part of a command can end in -/

/-- A read, and what follows it: it succeeds and the command goes on, it fails and the command ends, or it never
returns. -/
theorem memRead_andThen_finish {P : State → Prop} (addr : Byte) (n : Nat) (f : State → Seq) (s : State)
    (hok : (s.envAt 0).answer = .ok → P (f (((s.setStandby false).transact (.writeRead Config.busAddr addr n)).setBuf
      (s.devNow.wake.readBytes addr n s.drawNow)).tick).finish)
    (herr : ∀ e, (s.envAt 0).answer = .err e →
      P (((s.setStandby false).transact (.writeRead Config.busAddr addr n)).close (.transportError e)))
    (hhang : (s.envAt 0).answer = .hang → P ((s.setStandby false).transact (.writeRead Config.busAddr addr n))) :
    P ((memRead addr n s).andThen f).finish := by
  rcases memRead_cases addr n s with ⟨h, e⟩ | ⟨x, h, e⟩ | ⟨h, e⟩ <;> rw [e]
  · exact hok h
  · exact herr x h
  · exact hhang h

/-- A write, and what follows it. -/
theorem memWrite_andThen_finish {P : State → Prop} (addr v : Byte) (f : State → Seq) (s : State)
    (hok : (s.envAt 0).answer = .ok →
      P (f ((s.setStandby false).transact (.write Config.busAddr addr v)).tick).finish)
    (herr : ∀ e, (s.envAt 0).answer = .err e →
      P (((s.setStandby false).transact (.write Config.busAddr addr v)).close (.transportError e)))
    (hhang : (s.envAt 0).answer = .hang → P ((s.setStandby false).transact (.write Config.busAddr addr v))) :
    P ((memWrite addr v s).andThen f).finish := by
  rcases memWrite_cases addr v s with ⟨h, e⟩ | ⟨x, h, e⟩ | ⟨h, e⟩ <;> rw [e]
  · exact hok h
  · exact herr x h
  · exact hhang h

/-- A write that is the last step of its command. -/
theorem memWrite_finish {P : State → Prop} (addr v : Byte) (s : State)
    (hok : (s.envAt 0).answer = .ok →
      P (((s.setStandby false).transact (.write Config.busAddr addr v)).close (.ok .nothing)))
    (herr : ∀ e, (s.envAt 0).answer = .err e →
      P (((s.setStandby false).transact (.write Config.busAddr addr v)).close (.transportError e)))
    (hhang : (s.envAt 0).answer = .hang → P ((s.setStandby false).transact (.write Config.busAddr addr v))) :
    P (memWrite addr v s).finish := by
  rcases memWrite_cases addr v s with ⟨h, e⟩ | ⟨x, h, e⟩ | ⟨h, e⟩ <;> rw [e]
  · exact hok h
  · exact herr x h
  · exact hhang h

/-- Steps in sequence group either way. -/
theorem Seq.andThen_assoc (q : Seq) (f g : State → Seq) :
    (q.andThen f).andThen g = q.andThen fun s => (f s).andThen g := by
  cases q <;> rfl

/-- A command that needs `init = 1` runs its body, or answers NotInitialized. -/
theorem runInitialized_cases {P : State → Prop} (body : State → Seq) (s : State)
    (huninit : s.init = false → P (s.accept.close .notInitialized))
    (hinit : s.init = true → P (body s.accept).finish) : P (runInitialized body s) := by
  unfold runInitialized
  split
  · exact hinit (by assumption)
  · exact huninit (by simp_all)

/-- A decode ends the command with the Settings, or with InvalidEncoding where bit 5 of the byte is set. -/
theorem decodeBody_finish {P : State → Prop} (v : Byte) (s : State)
    (hok : ∀ set, decodeSettings v = some set → P (s.close (.ok (.settings set))))
    (hinvalid : v.getLsbD 5 = true → P (s.close (.invalidEncoding v))) : P (decodeBody v s).finish := by
  have key : ∀ v, decodeSettings v = none → v.getLsbD 5 = true := by decide
  unfold decodeBody
  split
  · exact hok _ (by assumption)
  · exact hinvalid (key _ (by assumption))

/-- The memory of the state after reset is in canonical form. -/
theorem State.reset_memOk : State.reset.memOk := by decide

end Sys2Proof.Machine
end

