-- ==== Sys2Proof/Laws/PerInstr.lean ====
section
/-! SUPPORT. One statement about each command as syntax, one lemma per constructor: the command's word selects the
command's row of the opcode map (30_encoding.md R118), whatever its operands. -/

namespace Sys2Proof.Laws.TableRow
open Sys2Proof Sys2Proof.Machine

/-- The word of the command, under the mask of its row, is the row's match. -/
def Statement (i : Instr) : Prop := encode i &&& (rowOf i).mask = (rowOf i).pattern

/-- A mask that keeps no bit of operands A and B leaves the opcode. -/
theorem packWord_opcode (op a b : Byte) : packWord op a b &&& 0x0000FF = op.setWidth 24 := by
  apply BitVec.eq_of_getLsbD_eq
  intro i hi
  have h : (0x0000FF : CmdWord).getLsbD i = decide (i < 8) := by
    revert i
    decide
  rw [BitVec.getLsbD_and, h]
  by_cases h8 : i < 8
  · simp [packWord, h8, hi, show i < 16 by omega]
  · simp [h8, BitVec.getLsbD_of_ge op i (by omega)]

theorem encset (s : Settings) : Statement (.encset s) := by
  rcases s with ⟨_ | _ | _ | _, _ | _ | _ | _, _ | _⟩ <;> rfl
theorem decset (v : Byte) : Statement (.decset v) := by
  have key : ∀ a : Byte, packWord 0x11 a 0 &&& 0xFF00FF = 0x000011 := by decide
  exact key v
theorem rdb (r : Byte) : Statement (.rdb r) := by
  have key : ∀ a : Byte, packWord 0x20 a 0 &&& 0xFF00FF = 0x000020 := by decide
  exact key r
theorem wrb (r v : Byte) : Statement (.wrb r v) := packWord_opcode _ r v
theorem rdburst (r n : Byte) : Statement (.rdburst r n) := packWord_opcode _ r n
theorem getst : Statement .getst := rfl
theorem getc2 : Statement .getc2 := rfl
theorem setc2 (f : Control2) : Statement (.setc2 f) := by
  rcases f with ⟨_ | _, _ | _, _ | _⟩ <;> rfl
theorem rdaxisX : Statement .rdaxisX := rfl
theorem rdaxisY : Statement .rdaxisY := rfl
theorem rdaxisZ : Statement .rdaxisZ := rfl
theorem rdall : Statement .rdall := rfl
theorem rdtemp : Statement .rdtemp := rfl
theorem new (s : Settings) : Statement (.new s) := by
  rcases s with ⟨_ | _ | _ | _, _ | _ | _ | _, _ | _⟩ <;> rfl
theorem reset : Statement .reset := rfl
theorem stby : Statement .stby := rfl
theorem isrdy : Statement .isrdy := rfl
theorem chset (s : Settings) : Statement (.chset s) := by
  rcases s with ⟨_ | _ | _ | _, _ | _ | _ | _, _ | _⟩ <;> rfl
theorem getset : Statement .getset := rfl
theorem getsrp : Statement .getsrp := rfl
theorem setsrp (v : Byte) : Statement (.setsrp v) := by
  have key : ∀ a : Byte, packWord 0x57 a 0 &&& 0xFF00FF = 0x000057 := by decide
  exact key v

end Sys2Proof.Laws.TableRow
end

