-- ==== Sys2Proof/Tests/Slice0.lean ====
section
/-! SUPPORT. The model's own tests. Expected results come from spec/95_test_vectors.md (V1 to V8, P1 to P5) or from the
rule named; a named witness for every statement with hypotheses stands at the end. -/

namespace Sys2Proof.Tests
open Sys2Proof Sys2Proof.Machine

/-! ## Helpers -/

/-- An environment entry: nothing before the transaction, and this answer; draws of zeros. -/
def entry (a : Answer) : EnvStep := ⟨[], a, [0, 0, 0, 0, 0, 0]⟩

/-- An initialised block over a device whose registers hold `m` and which measures, with this script. -/
def board (m : Memory) (env : List EnvStep) : State :=
  { State.reset with
    init := true, env := env
    dev := { mem := m, ptr := 0, measuring := .one, modeFree := false, epoch := 0, fresh := 0 } }

/-- The registers of P2: data 34 12 00 00 FF 7F, Status 01, TOUT 10 FF, Settings 89, Control2 40, period 01. -/
def sample : Memory :=
  [(0, 0x34), (1, 0x12), (2, 0x00), (3, 0x00), (4, 0xFF), (5, 0x7F), (6, 0x01), (7, 0x10), (8, 0xFF), (9, 0x89),
    (10, 0x40), (11, 0x01)]

/-- The sample with auto-increment off. -/
def sampleNoRol : Memory := sample.write 0x0A 0x00

/-- The board of P2, whose next transactions succeed. -/
def good : State := board sample [entry .ok, entry .ok, entry .ok]

/-- The state a command leaves. -/
def after (i : Instr) (s : State) : State :=
  match exec i s with
  | .next t => t
  | .fault _ => s
  | .refused _ => s

/-- The state of a block on which STBY has just succeeded: `standby = 1`, the device in hardware standby. -/
def asleep : State :=
  { board (sample.write 9 0x88) [entry .ok, entry .ok, entry .ok] with
    standby := true
    dev := { mem := sample.write 9 0x88, ptr := 0, measuring := .zero, modeFree := false, epoch := 0, fresh := 0 } }

/-- A Transport error value. -/
def e1 : BusError := ⟨1⟩

/-- The board with the first, the second or the third transaction failing or never returning. -/
def fails1 : State := board sample [entry (.err e1)]
def fails2 : State := board sample [entry .ok, entry (.err e1)]
def fails3 : State := board sample [entry .ok, entry .ok, entry (.err e1)]
def hangs1 : State := board sample [entry .hang]
def hangs2 : State := board sample [entry .ok, entry .hang]
def hangs3 : State := board sample [entry .ok, entry .ok, entry .hang]

/-- The block after power-on, with a script of successes. -/
def fresh : State := { State.reset with env := [entry .ok, entry .ok, entry .ok] }

/-- A block with this word on its port. -/
def posted (w : CmdWord) (s : State) : State := { s with cmds := [w] }

/-- The Settings of P1. -/
def set1 : Settings := ⟨.odr100, .osr128, .rng2G⟩

/-- The Settings of the isolation example S2. -/
def set2 : Settings := ⟨.odr50, .osr256, .rng8G⟩

/-! ## WellFormed -/

/-- R101: RDBURST's `n` is 1 to 255. -/
theorem test_wellFormed_refuses_burst_of_zero : Instr.wellFormed (.rdburst 0x00 0x00) = false := by decide
theorem test_wellFormed_accepts_burst_of_one : Instr.wellFormed (.rdburst 0x00 0x01) = true := by decide
theorem test_wellFormed_accepts_burst_of_255 : Instr.wellFormed (.rdburst 0xFF 0xFF) = true := by decide

/-! ## Decoding: each word written out bit by bit from R101 and R118, operand B, operand A, opcode -/

/-- R141: OSR256 in 7:6, RNG8G in 5:4, ODR50 in 3:2. -/
theorem test_decode_encset : decode 0b00000000_01010100_00010000 = .ok (.encset set2) := by decide
theorem test_decode_decset : decode 0b00000000_11111111_00010001 = .ok (.decset 0xFF) := by decide
theorem test_decode_rdb : decode 0b00000000_00001011_00100000 = .ok (.rdb 0x0B) := by decide
theorem test_decode_wrb : decode 0b01111111_00001011_00100001 = .ok (.wrb 0x0B 0x7F) := by decide
theorem test_decode_rdburst : decode 0b00000011_00001001_00100010 = .ok (.rdburst 0x09 3) := by decide
theorem test_decode_getst : decode 0b00000000_00000000_00110000 = .ok .getst := by decide
theorem test_decode_getc2 : decode 0b00000000_00000000_00110001 = .ok .getc2 := by decide
theorem test_decode_setc2 : decode 0b00000000_01000001_00110010 = .ok (.setc2 ⟨false, true, true⟩) := by decide
theorem test_decode_rdaxisX : decode 0b00000000_00000000_01000000 = .ok .rdaxisX := by decide
theorem test_decode_rdaxisY : decode 0b00000000_00000001_01000000 = .ok .rdaxisY := by decide
theorem test_decode_rdaxisZ : decode 0b00000000_00000010_01000000 = .ok .rdaxisZ := by decide
theorem test_decode_rdall : decode 0b00000000_00000000_01000001 = .ok .rdall := by decide
theorem test_decode_rdtemp : decode 0b00000000_00000000_01000010 = .ok .rdtemp := by decide
/-- P1 line 2: OSR128 = 10, RNG2G = 00, ODR100 = 10. -/
theorem test_decode_new : decode 0b00000000_10001000_01010000 = .ok (.new set1) := by decide
theorem test_decode_reset : decode 0b00000000_00000000_01010001 = .ok .reset := by decide
theorem test_decode_stby : decode 0b00000000_00000000_01010010 = .ok .stby := by decide
theorem test_decode_isrdy : decode 0b00000000_00000000_01010011 = .ok .isrdy := by decide
/-- P3 line 5. -/
theorem test_decode_chset : decode 0b00000000_01010100_01010100 = .ok (.chset set2) := by decide
theorem test_decode_getset : decode 0b00000000_00000000_01010101 = .ok .getset := by decide
theorem test_decode_getsrp : decode 0b00000000_00000000_01010110 = .ok .getsrp := by decide
theorem test_decode_setsrp : decode 0b00000000_00000001_01010111 = .ok (.setsrp 0x01) := by decide

/-- V1: every illegal word of the table, and those of P4. -/
theorem test_decode_refuses :
    decode 0x000130 = .error .unusedOperand ∧ decode 0x010030 = .error .unusedOperand ∧
    decode 0x000340 = .error .axisCode ∧ decode 0x000022 = .error .burstLength ∧
    decode 0x000232 = .error .flagOperand ∧ decode 0x002050 = .error .settingsOperand ∧
    decode 0x000150 = .error .settingsOperand ∧ decode 0x010050 = .error .unusedOperand ∧
    decode 0x000000 = .error .unknownOpcode ∧ decode 0x000058 = .error .unknownOpcode ∧
    decode 0x000023 = .error .unknownOpcode ∧ decode 0x000099 = .error .unknownOpcode ∧
    decode 0x00A050 = .error .settingsOperand := by decide

/-! ## One command, one step -/

/-- V2: ODR50, OSR256, RNG8G gives 0x55, in Uninitialized too (P4 line 8). -/
theorem test_encset : (after (.encset set2) State.reset).resp = some (.ok (.byte 0x55)) := by decide
/-- V2, last row. -/
theorem test_encset_largest :
    (after (.encset ⟨.odr200, .osr64, .rng8G⟩) State.reset).resp = some (.ok (.byte 0xDD)) := by decide
/-- V3: bits 1:0 are ignored. -/
theorem test_decset : (after (.decset 0x8B) State.reset).resp = some (.ok (.settings set1)) := by decide
/-- V3: RNG 0b10 with other fields valid. -/
theorem test_decset_invalid : (after (.decset 0xA9) State.reset).resp = some (.invalidEncoding 0xA9) := by decide
/-- V5: RDB 0x09. -/
theorem test_rdb : (after (.rdb 0x09) good).resp = some (.ok (.byte 0x89)) := by decide
/-- V5: the same read fails. -/
theorem test_rdb_error : (after (.rdb 0x09) fails1).resp = some (.transportError e1) := by decide
/-- V5: WRB 0x09, 0x88 puts the hardware in standby while `standby` stays 0. -/
theorem test_wrb_settings : (after (.wrb 0x09 0x88) good).dev.measuring = .zero ∧
    (after (.wrb 0x09 0x88) good).standby = false ∧ (after (.wrb 0x09 0x88) good).dev.reg 9 = 0x88 := by decide
/-- V8: W[0B 01] leaves Status as it was. -/
theorem test_wrb_keeps_status : (after (.wrb 0x0B 0x7F) good).dev.reg 6 = 0x01 ∧
    (after (.wrb 0x0B 0x7F) good).dev.reg 11 = 0x7F := by decide
/-- V5: RDBURST 0x00, 6. -/
theorem test_rdburst :
    (after (.rdburst 0x00 6) good).resp = some (.ok (.bytes [0x34, 0x12, 0x00, 0x00, 0xFF, 0x7F])) := by decide
/-- V5: with ROL_PNT = 0 byte 0 is the register and the others are the draws. -/
theorem test_rdburst_no_rollover :
    (after (.rdburst 0x00 3) (board sampleNoRol [⟨[], .ok, [0xAA, 0xBB, 0xCC]⟩])).resp =
      some (.ok (.bytes [0x34, 0xBB, 0xCC])) := by decide
/-- V4: raw 0xFF gives all three flags, and the read clears them (V8). -/
theorem test_getst : (after .getst (board (sample.write 6 0xFF) [entry .ok])).resp =
    some (.ok (.status ⟨true, true, true⟩)) ∧
    (after .getst (board (sample.write 6 0xFF) [entry .ok])).dev.reg 6 &&& 0x07 = 0 := by decide
/-- V4: raw 0x3E in Control2 has no flag, even where the open bits read as ones. -/
theorem test_getc2 : (after .getc2 (board (sample.write 10 0x3E) [⟨[], .ok, [0xFF]⟩])).resp =
    some (.ok (.control2 ⟨false, false, false⟩)) := by decide
/-- V8: R[0A]1 clears Status. -/
theorem test_getc2_clears_status : (after .getc2 good).dev.reg 6 &&& 0x07 = 0 := by decide
/-- V4: SETC2 ROL_PNT|INT_ENB. -/
theorem test_setc2 :
    (after (.setc2 ⟨false, true, true⟩) good).bus = [⟨.write 0x0D 0x0A 0x41, .ok []⟩] := by decide
/-- P5 line 1: SETC2 INT_ENB clears ROL_PNT. -/
theorem test_setc2_whole_byte : (after (.setc2 ⟨false, false, true⟩) good).dev.rolPnt = false := by decide
/-- V6: 34 12. -/
theorem test_rdaxisX : (after .rdaxisX good).resp = some (.ok (.int16 4660)) := by decide
/-- V6: 00 80. -/
theorem test_rdaxisY :
    (after .rdaxisY (board (sample.write 3 0x80) [entry .ok])).resp = some (.ok (.int16 (-32768))) := by decide
/-- V6: FF 7F. -/
theorem test_rdaxisZ : (after .rdaxisZ good).resp = some (.ok (.int16 32767)) := by decide
/-- S4. -/
theorem test_rdall : (after .rdall good).resp = some (.ok (.axes 4660 0 32767)) := by decide
/-- V6: a failed burst gives no values. -/
theorem test_rdall_error : (after .rdall fails1).resp = some (.transportError e1) := by decide
/-- V6: 10 FF. -/
theorem test_rdtemp : (after .rdtemp good).resp = some (.ok (.int16 (-240))) := by decide
/-- S7: three writes, the settings byte 0x89. -/
theorem test_new : (after (.new set1) fresh).bus = [⟨.write 0x0D 0x0A 0x80, .ok []⟩,
    ⟨.write 0x0D 0x0A 0x40, .ok []⟩, ⟨.write 0x0D 0x09 0x89, .ok []⟩] ∧ (after (.new set1) fresh).init = true := by
  decide
/-- P4 line 5: the second write fails, from an initialised block. -/
theorem test_new_fails : (after (.new set1) fails2).init = false ∧
    (after (.new set1) fails2).resp = some (.transportError e1) := by decide
/-- S6, and V8: Control2 is 0x40 afterwards. -/
theorem test_reset : (after .reset good).bus = [⟨.write 0x0D 0x0A 0x80, .ok []⟩, ⟨.write 0x0D 0x0A 0x40, .ok []⟩] ∧
    (after .reset good).dev.reg 10 = 0x40 := by decide
/-- V7: RESET before NEW. -/
theorem test_reset_uninitialized : (after .reset fresh).resp = some .notInitialized ∧
    (after .reset fresh).bus = [] := by decide
/-- S5: read 0x5D, write 0x5C, `standby` set; P3 line 1: the device stops measuring. -/
theorem test_stby : (after .stby (board (sample.write 9 0x5D) [entry .ok, entry .ok])).bus =
    [⟨.writeRead 0x0D 0x09 1, .ok [0x5D]⟩, ⟨.write 0x0D 0x09 0x5C, .ok []⟩] ∧
    (after .stby (board (sample.write 9 0x5D) [entry .ok, entry .ok])).standby = true ∧
    (after .stby (board (sample.write 9 0x5D) [entry .ok, entry .ok])).dev.measuring = .zero := by decide
/-- V7: the raw byte is not decoded, and bit 1, here drawn 1, is preserved. -/
theorem test_stby_raw_byte : (after .stby (board (sample.write 9 0xFF) [⟨[], .ok, [0xFF]⟩, entry .ok])).bus =
    [⟨.writeRead 0x0D 0x09 1, .ok [0xFF]⟩, ⟨.write 0x0D 0x09 0xFE, .ok []⟩] := by decide
/-- V7: DEV[6] = 0x06 is not ready. -/
theorem test_isrdy : (after .isrdy (board (sample.write 6 0x06) [entry .ok])).resp =
    some (.ok (.bool false)) := by decide
/-- V7: two in a row with no update between: true, then false. -/
theorem test_isrdy_twice : (after .isrdy good).resp = some (.ok (.bool true)) ∧
    (after .isrdy (after .isrdy good)).resp = some (.ok (.bool false)) := by decide
/-- V7: CHSET from Standby. -/
theorem test_chset : (after (.chset set2) asleep).bus = [⟨.write 0x0D 0x09 0x55, .ok []⟩] ∧
    (after (.chset set2) asleep).standby = false ∧ (after (.chset set2) asleep).dev.measuring = .one := by decide
/-- V7: 0x5C. -/
theorem test_getset : (after .getset (board (sample.write 9 0x5C) [entry .ok])).resp =
    some (.ok (.settings ⟨.odr200, .osr256, .rng8G⟩)) := by decide
/-- V7: 0xA9. -/
theorem test_getset_invalid : (after .getset (board (sample.write 9 0xA9) [entry .ok])).resp =
    some (.invalidEncoding 0xA9) := by decide
/-- V7: 0x80 is -128. -/
theorem test_getsrp : (after .getsrp (board (sample.write 11 0x80) [entry .ok])).resp =
    some (.ok (.int8 (-128))) := by decide
/-- P3 line 3: a read wakes the device and clears `standby`. -/
theorem test_getsrp_wakes : (after .getsrp asleep).dev.measuring = .one ∧
    (after .getsrp asleep).standby = false := by decide
/-- V7: SETSRP 0xFF. -/
theorem test_setsrp : (after (.setsrp 0xFF) good).bus = [⟨.write 0x0D 0x0B 0xFF, .ok []⟩] := by decide

/-! ## The port, the environment -/

/-- P4 line 3: an undefined opcode. -/
theorem test_step_illegal : ∃ t, step (posted 0x000099 good) = .next t ∧
    t.resp = some (.illegalCommand 0x000099) ∧ t.bus = [] := ⟨_, rfl, rfl, rfl⟩
/-- P1 line 1: GETST after power-on. -/
theorem test_step_after_reset : ∃ t, step (State.reset.withFetchWord 24 0x000030) = .next t ∧
    t.resp = some .notInitialized := ⟨_, rfl, rfl⟩
/-- V8: W[0A 80] with Control2 = 0x41 leaves bits 7 and 6 zero, whatever the draw. -/
theorem test_soft_reset : ((board (sample.write 10 0x41) []).dev.afterWrite 0x0A 0x80).rolPnt = false :=
  (Device.softReset_control2 _ 0x80).2 (by decide) (by decide)
/-- P2: a measurement update before a transaction is what the transaction finds. -/
theorem test_measure : (board [(6, 0x00)]
    [⟨[.measure 0x1234 0x0000 0x7FFF 0xFF10 false false], .ok, []⟩]).devNow.mem =
    [(0, 0x34), (1, 0x12), (2, 0x00), (3, 0x00), (4, 0xFF), (5, 0x7F), (6, 0x01), (7, 0x10), (8, 0xFF)] := by decide
/-- R103: payload bytes, low byte first. -/
theorem test_serialize : (Payload.axes (-1) (-32768) 1).serialize = [0xFF, 0xFF, 0x00, 0x80, 0x01, 0x00] := by decide
/-- A write keeps the register file in canonical form, wherever it falls. -/
theorem test_memory_canonical : (Memory.write [(3, 1), (9, 2)] 6 5) = [(3, 1), (6, 5), (9, 2)] := by decide

/-! ## Witnesses: for each statement with hypotheses, a state and operands that meet them together -/

theorem witness_DecodeOfEncode : Instr.wellFormed (.rdburst 0xFF 0xFF) = true := by decide
theorem witness_EncodeOfDecode : decode 0x010022 = .ok (.rdburst 0x00 1) := by decide
theorem witness_DecoderAccepts : legalWord 0xFFFF21 = true ∧ legalWord 0x010022 = true ∧ legalWord 0x000022 = false ∧
    legalWord 0x00DD50 = false := by decide
theorem witness_StepRuns : (posted 0x000041 good).busy = false ∧ (posted 0x000041 good).cmds = [0x000041] ∧
    decode 0x000041 = .ok .rdall := by decide
theorem witness_IllegalWord : (posted 0x000340 good).busy = false ∧ (posted 0x000340 good).cmds = [0x000340] ∧
    legalWord 0x000340 = false := by decide
theorem witness_IdleBlock : good.busy = false ∧ good.cmds = [] := by decide
theorem witness_StepKeepsTheInvariant : ∃ t, (posted 0x000052 good).Inv ∧ step (posted 0x000052 good) = .next t ∧
    t.standby = true ∧ t.bus.length = 2 := ⟨_, ⟨by decide, by decide, by decide, by decide, by decide⟩, rfl, rfl, rfl⟩
/-- From Standby, the invariant's `standby = 1` case. -/
theorem witness_InvInStandby : asleep.Inv ∧ asleep.standby = true :=
  ⟨⟨by decide, by decide, by decide, by decide, by decide⟩, rfl⟩
/-- A command in progress meets the invariant too. -/
theorem witness_InvBusy : (after .getst hangs1).Inv ∧ (after .getst hangs1).busy = true := by
  refine ⟨⟨?_, by decide, by decide, by decide, by decide⟩, rfl⟩
  exact State.devAfter_memOk _ _ (by decide)

theorem witness_OnlyNewWritesInit : ∃ t, exec .stby good = .next t ∧ isNew .stby = false := ⟨_, rfl, rfl⟩
/-- Both ways of the conclusion: a successful STBY, and a pure command in Standby. -/
theorem witness_OnlySuccessfulStby : (∃ t, exec .stby good = .next t ∧ t.standby = true) ∧
    (∃ t, exec (.decset 0x5C) asleep = .next t ∧ t.standby = true) := ⟨⟨_, rfl, rfl⟩, ⟨_, rfl, rfl⟩⟩
/-- Each row of the table: pure, NEW succeeding and failing, before NEW, STBY succeeding and failing, any other. -/
theorem witness_Lifecycle :
    (∃ t, exec (.decset 0x20) asleep = .next t ∧ t.busy = false ∧ isPure (.decset 0x20) = true ∧ t.standby = true) ∧
    (∃ t, exec (.new set1) fresh = .next t ∧ t.busy = false ∧ isNew (.new set1) = true ∧ t.init = true) ∧
    (∃ t, exec (.new set1) fails3 = .next t ∧ t.busy = false ∧ t.init = false) ∧
    (∃ t, exec .getset fresh = .next t ∧ t.busy = false ∧ needsInit .getset = true ∧ fresh.init = false) ∧
    (∃ t, exec .stby good = .next t ∧ t.busy = false ∧ needsInit .stby = true ∧ good.init = true ∧
      t.standby = true) ∧
    (∃ t, exec .stby fails2 = .next t ∧ t.busy = false ∧ t.standby = false) ∧
    (∃ t, exec .getst asleep = .next t ∧ t.busy = false ∧ asleep.standby = true ∧ t.standby = false) :=
  ⟨⟨_, rfl, rfl, rfl, rfl⟩, ⟨_, rfl, rfl, rfl, rfl⟩, ⟨_, rfl, rfl, rfl⟩, ⟨_, rfl, rfl, rfl, rfl⟩,
    ⟨_, rfl, rfl, rfl, rfl, rfl⟩, ⟨_, rfl, rfl, rfl⟩, ⟨_, rfl, rfl, rfl, rfl⟩⟩
theorem witness_StandbyDecidesNothing : ∃ t, exec .rdall asleep = .next t ∧ asleep.standby = true := ⟨_, rfl, rfl⟩
theorem witness_CommandBeforeNew : needsInit (.wrb 0x09 0x01) = true ∧ fresh.init = false := by decide
theorem witness_BitCodec : isPure (.encset set2) = true ∧ isPure (.decset 0x20) = true := by decide
theorem witness_OneResponse : (∃ t, exec .getst good = .next t ∧ t.busy = false) ∧
    (∃ t, exec .getst hangs1 = .next t ∧ t.busy = true) := ⟨⟨_, rfl, rfl⟩, ⟨_, rfl, rfl⟩⟩

/-- A command that needs `init`, and NEW from Uninitialized. -/
theorem witness_FirstFailure : (isPure .stby = false ∧ fails1.init = true ∧ (fails1.envAt 0).answer = .err e1) ∧
    isPure (.new set1) = false ∧ needsInit (.new set1) = false := by decide
theorem witness_TransportError :
    (∃ t op, exec .stby fails2 = .next t ∧ ⟨op, .err e1⟩ ∈ t.bus ∧ t.resp = some (.transportError e1)) :=
  ⟨_, .write 0x0D 0x09 0x88, rfl, by decide, rfl⟩
/-- Both sources of the error. -/
theorem witness_InvalidEncoding :
    (∃ t, exec (.decset 0x30) good = .next t ∧ t.resp = some (.invalidEncoding 0x30)) ∧
    (∃ t, exec .getset (board (sample.write 9 0xA9) [entry .ok]) = .next t ∧
      t.resp = some (.invalidEncoding 0xA9)) := ⟨⟨_, rfl, by decide⟩, ⟨_, rfl, by decide⟩⟩
theorem witness_NewFailingLater : ((fails2.envAt 0).answer = .ok ∧ (fails2.envAt 1).answer = .err e1) ∧
    ((fails3.envAt 0).answer = .ok ∧ (fails3.envAt 1).answer = .ok ∧ (fails3.envAt 2).answer = .err e1) := by decide
theorem witness_SecondFailure : fails2.init = true ∧ (fails2.envAt 0).answer = .ok ∧
    (fails2.envAt 1).answer = .err e1 := by decide
/-- The first, the second and the third transaction never returning, for a command that reaches it. -/
theorem witness_NeverReturns : (0 < txnCount .rdall ∧ hangs1.init = true ∧ (hangs1.envAt 0).answer = .hang) ∧
    (1 < txnCount .stby ∧ hangs2.init = true ∧ (hangs2.envAt 0).answer = .ok ∧ (hangs2.envAt 1).answer = .hang) ∧
    (2 < txnCount (.new set1) ∧ needsInit (.new set1) = false ∧ (hangs3.envAt 0).answer = .ok ∧
      (hangs3.envAt 1).answer = .ok ∧ (hangs3.envAt 2).answer = .hang) := by decide
/-- A command in progress, and a record that holds a transaction that never returned. -/
theorem witness_InProgress : ∃ t, exec .rdall hangs1 = .next t ∧ t.busy = true ∧
    ⟨.writeRead 0x0D 0x00 6, .hang⟩ ∈ t.bus := ⟨_, rfl, rfl, by decide⟩

theorem witness_SettingsCodec : decodeSettings 0xDF = some ⟨.odr200, .osr64, .rng8G⟩ ∧
    encodeSettings ⟨.odr200, .osr64, .rng8G⟩ = 0xDD := by decide
theorem witness_ResponsePort : decodeSettings 0x8B = some set1 := by decide
theorem witness_Decset : (0xDF : Byte).getLsbD 5 = false ∧ (0x20 : Byte).getLsbD 5 = true := by decide

/-- The block is initialised and its next three transactions succeed: the hypotheses of every command's result. -/
theorem witness_good : good.init = true ∧ (good.envAt 0).answer = .ok ∧ (good.envAt 1).answer = .ok ∧
    (good.envAt 2).answer = .ok ∧ (good.envAt 1).before = [] ∧ (good.envAt 2).before = [] := by decide
/-- The ends of RDB's address range, where the known bits are all and none. -/
theorem witness_Rdb : good.devNow.knownBits 0x0B = 0xFF ∧ good.devNow.knownBits 0x0C = 0x00 ∧
    good.devNow.knownBits 0xFF = 0x00 := by decide
/-- Each form WRB stores in, at the ends of its value range. -/
theorem witness_WrbStores : ((0x0A : Byte) = 0x0A ∧ (0x7F : Byte).getLsbD 7 = false) ∧
    (0x88 : Byte).getLsbD 0 = false ∧ (0x89 : Byte).getLsbD 0 = true ∧ asleep.devNow.measuring = .zero ∧
    asleep.init = true ∧ (asleep.envAt 0).answer = .ok := by decide
/-- WRB's and SETC2's soft reset with bits 6 and 0 zero, and with them set (U6). -/
theorem witness_SoftReset : ((0x80 : Byte).getLsbD 7 = true ∧ (0x80 : Byte).getLsbD 6 = false ∧
    (0x80 : Byte).getLsbD 0 = false) ∧ (0xC1 : Byte).getLsbD 7 = true := by decide
theorem witness_WrbElsewhere : ((0x08 : Byte) ≠ 0x09 ∧ (0x08 : Byte) ≠ 0x0A ∧ (0x08 : Byte) ≠ 0x0B) ∧
    ((0x0C : Byte) ≠ 0x09 ∧ (0x0C : Byte) ≠ 0x0A ∧ (0x0C : Byte) ≠ 0x0B) := by decide
/-- RDBURST with auto-increment, up to the last register, over Status, and past 0x0B. -/
theorem witness_Rdburst : good.devNow.rolPnt = true ∧ (3 : Byte) ≠ 0 ∧ 0x09 + 2 ≤ 0x0B ∧ 0x05 + 1 = 0x06 ∧
    ¬ 0x0B + 1 ≤ 0x0B ∧ (8 : Nat) + 3 ≤ 0x0B := by decide
/-- RDBURST, RDAXIS, RDALL and RDTEMP without auto-increment. -/
theorem witness_NoRollover : (board sampleNoRol [entry .ok]).devNow.rolPnt = false ∧
    (board sampleNoRol [entry .ok]).init = true := by decide
theorem witness_BurstOfOne : (∃ t, exec (.rdb 0x07) good = .next t) ∧ (∃ t, exec (.rdb 0x07) fails1 = .next t) :=
  ⟨⟨_, rfl⟩, ⟨_, rfl⟩⟩
theorem witness_EveryRead : isSingleRead .getsrp = true ∧ isSingleRead (.rdburst 0x06 1) = true ∧
    good.devNow.reg 6 &&& 0x07 = 0x01 := by decide
theorem witness_Getset : good.init = true ∧ (good.envAt 0).answer = .ok ∧
    (good.devNow.reg 0x09).getLsbD 5 = false := by decide
theorem witness_GetsetInvalid : (board (sample.write 9 0xA9) [entry .ok]).init = true ∧
    ((board (sample.write 9 0xA9) [entry .ok]).envAt 0).answer = .ok ∧
    ((board (sample.write 9 0xA9) [entry .ok]).devNow.reg 0x09).getLsbD 5 = true := by decide
/-- SETC2 without SOFT_RST, with SOFT_RST alone, and with all three flags. -/
theorem witness_Setc2 : good.init = true ∧ (good.envAt 0).answer = .ok ∧
    (Control2.mk false true true).softRst = false ∧ (Control2.mk true false false).softRst = true ∧
    (Control2.mk true true true).softRst = true := by decide
/-- NEW needs no `init`: from power-on. -/
theorem witness_New : fresh.init = false ∧ (fresh.envAt 0).answer = .ok ∧ (fresh.envAt 1).answer = .ok ∧
    (fresh.envAt 2).answer = .ok ∧ (fresh.envAt 2).before = [] := by decide
theorem witness_Measurement : asleep.dev.measuring = .zero ∧ good.dev.measuring ≠ .zero ∧
    Device.powerOnState.measuring ≠ .zero := by decide
/-- Each access, at the values where its cases meet. -/
theorem witness_HardwareStandby : asleep.dev.measuring = .zero ∧ (0x7F : Byte).getLsbD 7 = false ∧
    (0x80 : Byte).getLsbD 7 = true ∧ ((0x08 : Byte) ≠ 0x09 ∧ (0x08 : Byte) ≠ 0x0A ∧ (0x08 : Byte) ≠ 0x0B) ∧
    ((0x0C : Byte) ≠ 0x09 ∧ (0x0C : Byte) ≠ 0x0A ∧ (0x0C : Byte) ≠ 0x0B) := by decide

end Sys2Proof.Tests
end

section
/-! PROOFS. The value codecs of 30_encoding.md: the Settings fields (R110, R121), the flag bytes (R111, R112), the
signed values (R115, R116). -/

namespace Sys2Proof

/-! ## The Settings fields -/

@[simp] theorem codeOdr_valueOdr (c : BitVec 2) : codeOdr (valueOdr c) = c := by
  revert c
  decide

@[simp] theorem codeOsr_valueOsr (c : BitVec 2) : codeOsr (valueOsr c) = c := by
  revert c
  decide

theorem valueRng_eq_none_iff (c : BitVec 2) : valueRng c = none ↔ c = 0b10 ∨ c = 0b11 := by
  revert c
  decide

theorem unpackSettings_eq_none_iff (v : Byte) : unpackSettings v = none ↔ valueRng (v.extractLsb' 4 2) = none := by
  unfold unpackSettings
  cases valueRng (v.extractLsb' 4 2) <;> simp

/-! ## Flag bytes -/

/-- Bit `i` is what masking with the word of bit `i` alone tests. -/
theorem getLsbD_eq_mask_ne_zero {w : Nat} (v : BitVec w) (i : Nat) : v.getLsbD i = (v &&& BitVec.twoPow w i != 0) := by
  rw [BitVec.and_twoPow]
  cases h : v.getLsbD i with
  | false => simp
  | true =>
    have hbit : BitVec.twoPow w i ≠ 0#w := ne_of_apply_ne (BitVec.getLsbD · i) (by simp [BitVec.lt_of_getLsbD h])
    simp [hbit]

/-- A flag at bit `n` of a byte. -/
theorem ofBool_setWidth_shiftLeft (b : Bool) (n : Nat) :
    (BitVec.ofBool b).setWidth 8 <<< n = if b then BitVec.twoPow 8 n else 0 := by
  cases b <;> simp [BitVec.twoPow_eq]

/-- Control2 is read from its three flag bits alone (R112). -/
theorem control2OfByte_and_mask (v : Byte) : control2OfByte (v &&& 0xC1) = control2OfByte v := by
  simp [control2OfByte]

end Sys2Proof

namespace Sys2Proof.Machine

/-- Status is read from its three flag bits alone (R111). -/
theorem statusOfByte_and_mask (v : Byte) : statusOfByte (v &&& 0x07) = statusOfByte v := by
  simp [statusOfByte]

/-! ## Signed values -/

/-- The 16-bit pattern of two bytes, low byte first, as a number. -/
theorem toNat_le16 (lo hi : Byte) :
    (hi.setWidth 16 <<< 8 ||| lo.setWidth 16 : BitVec 16).toNat = hi.toNat * 256 + lo.toNat := by
  have hor : hi.toNat <<< 8 + lo.toNat = hi.toNat <<< 8 ||| lo.toNat := Nat.shiftLeft_add_eq_or_of_lt lo.isLt hi.toNat
  have hhi : hi.toNat * 256 < 65536 := by omega
  have hlo : lo.toNat < 65536 := by omega
  simpa [Nat.shiftLeft_eq, Nat.mod_eq_of_lt hhi, Nat.mod_eq_of_lt hlo] using hor.symm

theorem le16s_eq (lo hi : Byte) : le16s lo hi =
    if hi.toNat * 256 + lo.toNat < 32768 then (hi.toNat * 256 + lo.toNat : Int)
    else (hi.toNat * 256 + lo.toNat : Int) - 65536 := by
  rw [le16s, BitVec.toInt_eq_toNat_cond, toNat_le16]
  split_ifs <;> omega

theorem sext_eq (v : Byte) : sext v = if v.toNat < 128 then (v.toNat : Int) else (v.toNat : Int) - 256 := by
  rw [sext, BitVec.toInt_eq_toNat_cond]
  split_ifs <;> omega

theorem sext_bounds (v : Byte) : -128 ≤ sext v ∧ sext v ≤ 127 := by
  rw [sext_eq]
  split_ifs <;> omega

@[simp] theorem ofInt_sext (v : Byte) : BitVec.ofInt 8 (sext v) = v := BitVec.ofInt_toInt

/-! ## SETSRP -/

theorem exec_setsrp (v : Byte) (s : State) : exec (.setsrp v) s = .next (runInitialized (memWrite 0x0B v) s) := rfl

/-- SETSRP in an initialized block, the write answered. -/
theorem exec_setsrp_ok {s : State} (hinit : s.init = true) (hok : (s.envAt 0).answer = .ok) (v : Byte) :
    exec (.setsrp v) s =
      .next (((s.accept.setStandby false).transact (.write Config.busAddr 0x0B v)).close (.ok .nothing)) := by
  rw [exec_setsrp, runInitialized_init hinit, memWrite_ok (by simpa using hok), Seq.finish_go]

/-- A write that is answered returns no bytes. -/
theorem State.resultNow_write_ok {s : State} (h : (s.envAt 0).answer = .ok) (a : BitVec 7) (r v : Byte) :
    s.resultNow (.write a r v) = .ok [] := State.resultNow_ok h _

/-! ## The obligations -/

/-- Settles O26: a Settings byte is undefined exactly where its RNG code is. -/
theorem onlyTheRangeFieldCanFailToDecode : Obligations.OnlyTheRangeFieldCanFailToDecode :=
  ⟨fun c => ⟨codeOdr_valueOdr c, codeOsr_valueOsr c⟩,
    fun v => (unpackSettings_eq_none_iff v).trans (valueRng_eq_none_iff _)⟩

/-- Settles O27: each flag is one bit, and the bits outside the mask are not read. -/
theorem statusByteIsReadByMasking : Obligations.StatusByteIsReadByMasking := by
  intro v
  refine ⟨getLsbD_eq_mask_ne_zero v 2, getLsbD_eq_mask_ne_zero v 1, getLsbD_eq_mask_ne_zero v 0, fun u => ?_⟩
  rw [← statusOfByte_and_mask, masked_known v u 0x07 0xF8 (by decide), statusOfByte_and_mask]

/-- Settles O28: each flag is one bit, read and written, and the bits outside the mask are not read. -/
theorem control2ByteIsReadAndWrittenByMasking : Obligations.Control2ByteIsReadAndWrittenByMasking := by
  refine ⟨fun v => ⟨getLsbD_eq_mask_ne_zero v 7, getLsbD_eq_mask_ne_zero v 6, getLsbD_eq_mask_ne_zero v 0,
    fun u => ?_⟩, fun c => ?_⟩
  · rw [← control2OfByte_and_mask, masked_known v u 0xC1 0x3E (by decide), control2OfByte_and_mask]
  · have h0 := ofBool_setWidth_shiftLeft c.intEnb 0
    rw [BitVec.shiftLeft_zero] at h0
    rw [byteOfControl2, ofBool_setWidth_shiftLeft, ofBool_setWidth_shiftLeft, h0]
    rfl

/-- Settles O29: the pattern's number, less 65536 where its top bit is set; the rule's examples are evaluated. -/
theorem twoBytesAreOneSignedValue : Obligations.TwoBytesAreOneSignedValue :=
  ⟨fun b0 b1 => le16s_eq b0 b1, by decide, by decide, by decide⟩

/-- Settles O30: the byte's signed value keeps its bits, and SETSRP sends operand A as it is. -/
theorem periodByteIsASignedByte : Obligations.PeriodByteIsASignedByte := by
  intro v
  obtain ⟨hlow, hhigh⟩ := sext_bounds v
  refine ⟨sext_eq v, hlow, hhigh, ofInt_sext v, operandA_packWord 0x57 v 0,
    fun s hinit hok => ⟨_, exec_setsrp_ok hinit hok v, ?_⟩⟩
  simp [State.resultNow_write_ok hok, Config.busAddr]

end Sys2Proof.Machine
end

section
/-! PROOFS. The BitCodec family of 40_bitcodec.md: ENCSET and DECSET are answered at once, with a response that their
operand alone decides (R140 to R142). -/

namespace Sys2Proof.Machine

/-! ## A command that is answered at once -/

/-- A command accepted and answered in one go leaves the Transport, the device and the two bits alone. -/
theorem State.accept_close_noBus (s : State) (r : Reply) : NoBus s (s.accept.close r) where
  traffic := ⟨State.accept_bus s, State.accept_env s, State.accept_txns s⟩
  init := State.accept_init s
  standby := State.accept_standby s
  dev := State.accept_dev s
  events := State.accept_events s

/-! ## ENCSET and DECSET -/

/-- DECSET's response, as a function of the byte (R142). -/
def decodeReply (v : Byte) : Reply :=
  match decodeSettings v with
  | some set => .ok (.settings set)
  | none => .invalidEncoding v

/-- A decode ends its command in the state it began in, whatever that state is. -/
theorem decodeBody_eq_stop (v : Byte) (s : State) : decodeBody v s = .stop (decodeReply v) s := by
  unfold decodeBody decodeReply
  cases decodeSettings v with
  | some set => rfl
  | none => rfl

theorem exec_encset (set : Settings) (s : State) :
    exec (.encset set) s = .next (s.accept.close (.ok (.byte (encodeSettings set)))) := rfl

theorem exec_decset (v : Byte) (s : State) : exec (.decset v) s = .next (s.accept.close (decodeReply v)) := by
  have hrun : exec (.decset v) s = .next (decodeBody v s.accept).finish := rfl
  rw [hrun, decodeBody_eq_stop, Seq.finish_stop]

/-- ENCSET and DECSET are all there is in the BitCodec family. -/
theorem isPure_iff (i : Instr) : isPure i = true ↔ (∃ set, i = .encset set) ∨ ∃ v, i = .decset v := by
  cases i <;> simp [isPure]

/-! ## The obligation -/

/-- Settles O16: each of the two commands is accepted and at once answered with a reply chosen by its operand. -/
theorem bitCodecCommandsAreFunctionsOfTheirOperand : Obligations.BitCodecCommandsAreFunctionsOfTheirOperand := by
  have answered (s : State) (r : Reply) : (s.accept.close r).resp = some r ∧ (s.accept.close r).busy = false ∧
      NoBus s (s.accept.close r) := ⟨State.close_resp _ r, State.close_busy _ r, s.accept_close_noBus r⟩
  intro i hi
  obtain ⟨set, rfl⟩ | ⟨v, rfl⟩ := (isPure_iff i).mp hi
  · exact ⟨.ok (.byte (encodeSettings set)), fun s => ⟨_, exec_encset set s, answered s _⟩⟩
  · exact ⟨decodeReply v, fun s => ⟨_, exec_decset v s, answered s _⟩⟩

end Sys2Proof.Machine
end

section
/-! PROOFS. The errors of 60_exceptions.md: a command's sequence goes on only while its transactions succeed, so a
failed transaction is the last one and its error the response (R201); what `raise` leaves as it was (R205). -/

namespace Sys2Proof.Machine

/-! ## How a command can conclude -/

/-- Every transaction of the list was answered `ok`. -/
abbrev AllOk (bus : List Txn) : Prop := ∀ x ∈ bus, x.result.isOk = true

/-- A command in progress, with no response out, whose transactions have all succeeded. -/
structure State.Unfailed (s : State) : Prop where
  resp : s.resp = none
  bus : AllOk s.bus

/-- The three ways a command can leave its response and its transactions. -/
inductive State.Concluded (t : State) : Prop where
  /-- Every transaction succeeded, and the response is none of the Transport's. -/
  | answered (r : Reply) (hresp : t.resp = some r) (hne : ∀ e, r ≠ .transportError e) (hbus : AllOk t.bus)
  /-- The last transaction failed, and its error is the response. -/
  | failed (op : BusOp) (e : BusError) (before : List Txn) (hresp : t.resp = some (.transportError e))
      (hbus : t.bus = before ++ [⟨op, .err e⟩]) (hbefore : AllOk before)
  /-- The last transaction never returned, and there is no response. -/
  | stuck (op : BusOp) (before : List Txn) (hresp : t.resp = none) (hbus : t.bus = before ++ [⟨op, .hang⟩])
      (hbefore : AllOk before)

/-- Where the sequence goes on nothing has failed; where it does not, the command has concluded. -/
def Seq.StopsAtFailure : Seq → Prop
  | .go s => s.Unfailed
  | .stop r s => (s.close r).Concluded
  | .hung s => s.Concluded

/-- The steps `f` keep to that from every state in which nothing has failed. -/
def StepsStopAtFailure (f : State → Seq) : Prop := ∀ s, s.Unfailed → (f s).StopsAtFailure

theorem State.accept_unfailed (s : State) : s.accept.Unfailed := ⟨rfl, List.forall_mem_nil _⟩

/-- Only the response and the transactions matter: an update of other fields keeps the property. -/
theorem State.Unfailed.update {s s' : State} (h : s.Unfailed) (hresp : s'.resp = s.resp := by rfl)
    (hbus : s'.bus = s.bus := by rfl) : s'.Unfailed := ⟨hresp.trans h.resp, hbus ▸ h.bus⟩

/-- A response that is none of the Transport's, with nothing failed, concludes the command. -/
theorem State.Unfailed.close {s : State} (h : s.Unfailed) {r : Reply} (hr : ∀ e, r ≠ .transportError e) :
    (s.close r).Concluded := .answered r rfl hr h.bus

theorem State.Unfailed.transact_ok {s : State} (h : s.Unfailed) {op : BusOp} {bs : List Byte}
    (hok : s.resultNow op = .ok bs) : (s.transact op).Unfailed where
  resp := h.resp
  bus := by
    rw [AllOk, State.transact_bus, List.forall_mem_append, List.forall_mem_singleton, hok]
    exact ⟨h.bus, rfl⟩

theorem State.Unfailed.transact_err {s : State} (h : s.Unfailed) {op : BusOp} {e : BusError}
    (herr : s.resultNow op = .err e) : ((s.transact op).close (.transportError e)).Concluded :=
  .failed op e s.bus rfl (by simp [herr]) h.bus

theorem State.Unfailed.transact_hang {s : State} (h : s.Unfailed) {op : BusOp}
    (hhang : s.resultNow op = .hang) : (s.transact op).Concluded :=
  .stuck op s.bus h.resp (by simp [hhang]) h.bus

/-! ## The steps of a command -/

theorem memRead_stopsAtFailure (addr : Byte) (n : Nat) : StepsStopAtFailure (memRead addr n) := by
  intro s hs
  have hs' : (s.setStandby false).Unfailed := hs.update
  rcases memRead_cases addr n s with ⟨h, hrun⟩ | ⟨e, h, hrun⟩ | ⟨h, hrun⟩ <;> rw [hrun]
  · exact (hs'.transact_ok (State.resultNow_ok h _)).update
  · exact hs'.transact_err (State.resultNow_err h _)
  · exact hs'.transact_hang (State.resultNow_hang h _)

theorem memWrite_stopsAtFailure (addr v : Byte) : StepsStopAtFailure (memWrite addr v) := by
  intro s hs
  have hs' : (s.setStandby false).Unfailed := hs.update
  rcases memWrite_cases addr v s with ⟨h, hrun⟩ | ⟨e, h, hrun⟩ | ⟨h, hrun⟩ <;> rw [hrun]
  · exact hs'.transact_ok (State.resultNow_ok h _)
  · exact hs'.transact_err (State.resultNow_err h _)
  · exact hs'.transact_hang (State.resultNow_hang h _)

theorem respond_stopsAtFailure (p : State → Payload) : StepsStopAtFailure fun s => respond (p s) s :=
  fun _ hs => hs.close nofun

theorem decodeBody_stopsAtFailure (v : Byte) : StepsStopAtFailure (decodeBody v) := by
  intro s hs
  have hne : ∀ e, decodeReply v ≠ .transportError e := by
    unfold decodeReply
    cases decodeSettings v <;> exact nofun
  rw [decodeBody_eq_stop]
  exact hs.close hne

/-- Numbered steps in a row: the later ones run only where nothing has failed. -/
theorem StepsStopAtFailure.andThen {f g : State → Seq} (hf : StepsStopAtFailure f) (hg : StepsStopAtFailure g) :
    StepsStopAtFailure fun s => (f s).andThen g := by
  intro s hs
  have hfs := hf s hs
  show ((f s).andThen g).StopsAtFailure
  cases hq : f s with
  | go s' =>
    rw [hq] at hfs
    exact hg s'.tick (State.Unfailed.update hfs)
  | stop r s' => rwa [hq] at hfs
  | hung s' => rwa [hq] at hfs

/-- A read whose bytes decide the response. -/
theorem read_stopsAtFailure (addr : Byte) (n : Nat) (p : State → Payload) :
    StepsStopAtFailure fun s => (memRead addr n s).andThen fun s => respond (p s) s :=
  (memRead_stopsAtFailure addr n).andThen (respond_stopsAtFailure p)

/-- A read whose byte decides the response and a diagnostic event. -/
theorem read_emit_stopsAtFailure (addr : Byte) (p : State → Payload) (ev : State → DiagEvent) :
    StepsStopAtFailure fun s => (memRead addr 1 s).andThen fun s => respond (p s) (s.emit (ev s)) :=
  (memRead_stopsAtFailure addr 1).andThen fun s hs => (hs.update : (s.emit (ev s)).Unfailed).close nofun

/-- A write followed by a diagnostic event. -/
theorem write_emit_stopsAtFailure (addr v : Byte) (ev : DiagEvent) :
    StepsStopAtFailure fun s => (memWrite addr v s).andThen fun s => .go (s.emit ev) :=
  (memWrite_stopsAtFailure addr v).andThen fun s hs => (hs.update : (s.emit ev).Unfailed)

/-- RESET's body, two writes in a row. -/
theorem resetBody_stopsAtFailure : StepsStopAtFailure resetBody := by
  have hpulse : StepsStopAtFailure fun s => memWrite 0x0A 0x80 (s.emit .resetStart) :=
    fun _ hs => memWrite_stopsAtFailure _ _ _ hs.update
  exact hpulse.andThen (memWrite_stopsAtFailure 0x0A 0x40)

/-- NEW's body: the two bits cleared, RESET's body, the Settings write, and `init` set. -/
theorem newBody_stopsAtFailure (set : Settings) : StepsStopAtFailure fun s =>
    (((Seq.go ((s.setInit false).setStandby false)).andThen resetBody).andThen (settingsBody set)).andThen fun s =>
      .go ((s.emit (.settingsApplied (encodeSettings set))).setInit true) := by
  have hclear : StepsStopAtFailure fun s => .go ((s.setInit false).setStandby false) :=
    fun s hs => (hs.update : ((s.setInit false).setStandby false).Unfailed)
  have hwrites := (hclear.andThen resetBody_stopsAtFailure).andThen
    (memWrite_stopsAtFailure 0x09 (encodeSettings set))
  exact hwrites.andThen fun s hs =>
    (hs.update : ((s.emit (.settingsApplied (encodeSettings set))).setInit true).Unfailed)

/-- STBY's body: the read, the write of the masked byte, and `standby` set. -/
theorem stbyBody_stopsAtFailure : StepsStopAtFailure fun s =>
    ((memRead 0x09 1 s).andThen fun s => memWrite 0x09 (s.bufAt 0 &&& 0xFE) (s.setT (s.bufAt 0))).andThen fun s =>
      .go (s.setStandby true) := by
  have hwrite : StepsStopAtFailure fun s => memWrite 0x09 (s.bufAt 0 &&& 0xFE) (s.setT (s.bufAt 0)) :=
    fun _ hs => memWrite_stopsAtFailure _ _ _ hs.update
  exact ((memRead_stopsAtFailure 0x09 1).andThen hwrite).andThen fun s hs =>
    (hs.update : (s.setStandby true).Unfailed)

/-- GETSET's body: the read, and the decode of its byte. -/
theorem getsetBody_stopsAtFailure : StepsStopAtFailure fun s =>
    (memRead 0x09 1 s).andThen fun s => decodeBody (s.bufAt 0) (s.setT (s.bufAt 0)) :=
  (memRead_stopsAtFailure 0x09 1).andThen fun _ hs => decodeBody_stopsAtFailure _ _ hs.update

/-! ## The whole command -/

theorem Seq.StopsAtFailure.finish {q : Seq} (h : q.StopsAtFailure) : q.finish.Concluded := by
  cases q with
  | go s => exact State.Unfailed.close h nofun
  | stop r s => exact h
  | hung s => exact h

theorem StepsStopAtFailure.runAlways_concluded {body : State → Seq} (h : StepsStopAtFailure body) (s : State) :
    (runAlways body s).Concluded := (h _ s.accept_unfailed).finish

theorem StepsStopAtFailure.runInitialized_concluded {body : State → Seq} (h : StepsStopAtFailure body) (s : State) :
    (runInitialized body s).Concluded :=
  runInitialized_cases body s (fun _ => s.accept_unfailed.close nofun) (fun _ => (h _ s.accept_unfailed).finish)

/-- Every command concludes in one of the three ways. -/
theorem exec_concluded (i : Instr) (s : State) : ∃ t, exec i s = .next t ∧ t.Concluded := by
  cases i with
  | encset set => exact ⟨_, rfl, (respond_stopsAtFailure fun _ => .byte (encodeSettings set)).runAlways_concluded s⟩
  | decset v => exact ⟨_, rfl, (decodeBody_stopsAtFailure v).runAlways_concluded s⟩
  | rdb r => exact ⟨_, rfl, (read_stopsAtFailure r 1 _).runInitialized_concluded s⟩
  | wrb r v => exact ⟨_, rfl, (memWrite_stopsAtFailure r v).runInitialized_concluded s⟩
  | rdburst r n => exact ⟨_, rfl, (read_stopsAtFailure r n.toNat _).runInitialized_concluded s⟩
  | getst => exact ⟨_, rfl, (read_emit_stopsAtFailure 0x06 _ _).runInitialized_concluded s⟩
  | getc2 => exact ⟨_, rfl, (read_emit_stopsAtFailure 0x0A _ _).runInitialized_concluded s⟩
  | setc2 f => exact ⟨_, rfl, (write_emit_stopsAtFailure 0x0A (byteOfControl2 f) _).runInitialized_concluded s⟩
  | rdaxisX => exact ⟨_, rfl, (read_stopsAtFailure _ 2 _).runInitialized_concluded s⟩
  | rdaxisY => exact ⟨_, rfl, (read_stopsAtFailure _ 2 _).runInitialized_concluded s⟩
  | rdaxisZ => exact ⟨_, rfl, (read_stopsAtFailure _ 2 _).runInitialized_concluded s⟩
  | rdall => exact ⟨_, rfl, (read_stopsAtFailure 0x00 6 _).runInitialized_concluded s⟩
  | rdtemp => exact ⟨_, rfl, (read_stopsAtFailure 0x07 2 _).runInitialized_concluded s⟩
  | new set => exact ⟨_, rfl, (newBody_stopsAtFailure set).runAlways_concluded s⟩
  | reset => exact ⟨_, rfl, resetBody_stopsAtFailure.runInitialized_concluded s⟩
  | stby => exact ⟨_, rfl, stbyBody_stopsAtFailure.runInitialized_concluded s⟩
  | isrdy => exact ⟨_, rfl, (read_stopsAtFailure 0x06 1 _).runInitialized_concluded s⟩
  | chset set => exact ⟨_, rfl, (write_emit_stopsAtFailure 0x09 (encodeSettings set) _).runInitialized_concluded s⟩
  | getset => exact ⟨_, rfl, getsetBody_stopsAtFailure.runInitialized_concluded s⟩
  | getsrp => exact ⟨_, rfl, (read_stopsAtFailure 0x0B 1 _).runInitialized_concluded s⟩
  | setsrp v => exact ⟨_, rfl, (memWrite_stopsAtFailure 0x0B v).runInitialized_concluded s⟩

/-! ## The obligations -/

/-- A transaction that failed is none of those that succeeded. -/
theorem AllOk.err_not_mem {bus : List Txn} (h : AllOk bus) (op : BusOp) (e : BusError) : ⟨op, .err e⟩ ∉ bus :=
  fun hmem => Bool.false_ne_true (h _ hmem)

/-- Settles O19: an error in the record is that of the last transaction of a command that concluded with it. -/
theorem transportErrorIsPropagatedUnchanged : Obligations.TransportErrorIsPropagatedUnchanged := by
  intro i s t h
  obtain ⟨t', ht', hend⟩ := exec_concluded i s
  obtain rfl : t' = t := Host.Outcome.next.inj (ht'.symm.trans h)
  cases hend with
  | answered r hresp hne hbus =>
    refine ⟨fun op e hmem => absurd hmem (hbus.err_not_mem op e), fun e he => absurd ?_ (hne e)⟩
    exact Option.some.inj (hresp.symm.trans he)
  | failed op e before hresp hbus hbefore =>
    refine ⟨fun op' e' hmem => ?_, fun e' he' => ⟨op, ?_⟩⟩
    · have hlast : (⟨op', .err e'⟩ : Txn) = ⟨op, .err e⟩ := by
        simpa [hbus, hbefore.err_not_mem] using hmem
      obtain ⟨rfl, rfl⟩ : op' = op ∧ e' = e := by simpa using hlast
      have hcount : before.count ⟨op', .err e'⟩ = 0 := List.count_eq_zero.mpr (hbefore.err_not_mem op' e')
      exact ⟨hresp, by simp [hbus], by simp [hbus, hcount]⟩
    · obtain rfl : e = e' := by simpa [hresp] using he'
      simp [hbus]
  | stuck op before hresp hbus hbefore =>
    refine ⟨fun op' e' hmem => ?_, fun e' he' => ?_⟩
    · simp [hbus, hbefore.err_not_mem] at hmem
    · simp [hresp] at he'

/-- Settles O24: `raise` stops the sequence, and the state it stopped in is closed with the error. -/
theorem raiseEmitsTheErrorAndIdles : Obligations.RaiseEmitsTheErrorAndIdles := by
  intro r s
  have hrun : (raise r s).finish = s.close r := rfl
  rw [hrun]
  simp

end Sys2Proof.Machine
end

section
/-! PROOFS. The command words of 30_encoding.md: encode and decode are inverse to each other (D30); a word that
decodes is the word of the command it decodes to. -/

namespace Sys2Proof
open Machine

/-! ## Operand bytes and their typed values -/

/-- The fullScale of a code has that code (R110). -/
theorem codeRng_of_valueRng {c : BitVec 2} {rng : Rng} (h : valueRng c = some rng) : codeRng rng = c := by
  have key : ∀ c : BitVec 2, ∀ rng ∈ valueRng c, codeRng rng = c := by decide
  exact key c rng h

/-- The Settings of a byte, packed again, are the byte with bits 1:0 cleared (R113). -/
theorem packSettings_of_unpackSettings {v : Byte} {set : Settings} (h : unpackSettings v = some set) :
    packSettings set = v &&& 0xFC := by
  have key : ∀ v : Byte, ∀ set ∈ unpackSettings v, packSettings set = v &&& 0xFC := by decide
  exact key v set h

/-- A packed Settings has its two low bits zero, and unpacks to itself whatever those bits are. -/
theorem unpackSettings_packSettings (set : Settings) :
    (packSettings set).extractLsb' 0 2 = 0 ∧ unpackSettings (packSettings set) = some set ∧
      unpackSettings (packSettings set ||| 0x01) = some set := by
  rcases set with ⟨odr, osr, rng⟩
  cases odr <;> cases osr <;> cases rng <;> decide

theorem control2OfByte_byteOfControl2 (f : Control2) :
    byteOfControl2 f &&& 0x3E = 0 ∧ control2OfByte (byteOfControl2 f) = f := by
  rcases f with ⟨softRst, rolPnt, intEnb⟩
  cases softRst <;> cases rolPnt <;> cases intEnb <;> decide

/-- A byte's Control2, written again, is the byte with bits 5:1 cleared (R112). -/
theorem byteOfControl2_control2OfByte (v : Byte) : byteOfControl2 (control2OfByte v) = v &&& 0xC1 := by
  revert v
  decide

theorem and_0xFC_of_low_zero {v : Byte} (h : v.extractLsb' 0 2 = 0) : v &&& 0xFC = v := by
  revert v
  decide

theorem and_0xC1_of_flags_only {v : Byte} (h : v &&& 0x3E = 0) : v &&& 0xC1 = v := by
  revert v
  decide

/-! ## Each format decodes the operands its commands encode to -/

theorem formatS_packSettings (f : Settings → Instr) (set : Settings) :
    formatS f (packSettings set) 0 = .ok (f set) := by
  obtain ⟨hlow, hunpack, -⟩ := unpackSettings_packSettings set
  simp [formatS, hlow, hunpack]

theorem formatF_byteOfControl2 (f : Control2 → Instr) (c : Control2) : formatF f (byteOfControl2 c) 0 = .ok (f c) := by
  obtain ⟨hmask, hround⟩ := control2OfByte_byteOfControl2 c
  have hmask' : byteOfControl2 c &&& 0x3E#8 = 0#8 := hmask
  simp [formatF, hmask', hround]

theorem formatRN_of_ne_zero (r : Byte) {n : Byte} (hn : n ≠ 0) : formatRN r n = .ok (.rdburst r n) := if_neg hn

/-- Settles O1: packing and unpacking the word's fields cancel, and so do each format's encoding and decoding of its
operands. -/
theorem decodeOfEncodeIsTheCommand : Obligations.DecodeOfEncodeIsTheCommand := by
  intro i hwf
  cases i with
  | encset set => exact (decode_packWord _ _ _).trans (formatS_packSettings .encset set)
  | decset v => exact (decode_packWord _ _ _).trans rfl
  | rdb r => exact (decode_packWord _ _ _).trans rfl
  | wrb r v => exact (decode_packWord _ _ _).trans rfl
  | rdburst r n => exact (decode_packWord _ _ _).trans (formatRN_of_ne_zero r (by simpa [Instr.wellFormed] using hwf))
  | setc2 f => exact (decode_packWord _ _ _).trans (formatF_byteOfControl2 .setc2 f)
  | new set => exact (decode_packWord _ _ _).trans (formatS_packSettings .new set)
  | chset set => exact (decode_packWord _ _ _).trans (formatS_packSettings .chset set)
  | setsrp v => exact (decode_packWord _ _ _).trans rfl
  | getst | getc2 | rdaxisX | rdaxisY | rdaxisZ | rdall | rdtemp | reset | stby | isrdy | getset | getsrp =>
    exact (decode_packWord _ _ _).trans rfl

/-! ## A word that decodes is the word of its command -/

/-- The command `i` is well-formed and its word has these three bytes. -/
def Instr.HasWord (i : Instr) (op a b : Byte) : Prop := i.wellFormed = true ∧ encode i = packWord op a b

theorem hasWord_of_formatN {i j : Instr} {op a b : Byte} (h : formatN i a b = .ok j) (hi : i.HasWord op 0 0) :
    j.HasWord op a b := by
  obtain ⟨rfl, rfl, rfl⟩ := formatN_ok h
  exact hi

theorem hasWord_of_formatV {f : Byte → Instr} {i : Instr} {op a b : Byte} (h : formatV f a b = .ok i)
    (hf : ∀ v, (f v).HasWord op v 0) : i.HasWord op a b := by
  obtain ⟨rfl, rfl⟩ := formatV_ok h
  exact hf a

theorem hasWord_of_formatS {f : Settings → Instr} {i : Instr} {op a b : Byte} (h : formatS f a b = .ok i)
    (hf : ∀ set, (f set).HasWord op (packSettings set) 0) : i.HasWord op a b := by
  obtain ⟨rfl, hlow, set, hset, rfl⟩ := formatS_ok h
  have hpack : packSettings set = a := (packSettings_of_unpackSettings hset).trans (and_0xFC_of_low_zero hlow)
  exact hpack ▸ hf set

theorem hasWord_of_formatF {f : Control2 → Instr} {i : Instr} {op a b : Byte} (h : formatF f a b = .ok i)
    (hf : ∀ c, (f c).HasWord op (byteOfControl2 c) 0) : i.HasWord op a b := by
  obtain ⟨rfl, hmask, rfl⟩ := formatF_ok h
  have hbyte : byteOfControl2 (control2OfByte a) = a :=
    (byteOfControl2_control2OfByte a).trans (and_0xC1_of_flags_only hmask)
  have hword := hf (control2OfByte a)
  rwa [hbyte] at hword

theorem hasWord_of_formatX {i : Instr} {a b : Byte} (h : formatX a b = .ok i) : i.HasWord 0x40 a b := by
  obtain ⟨rfl, ⟨rfl, rfl⟩ | ⟨rfl, rfl⟩ | ⟨rfl, rfl⟩⟩ := formatX_ok h
  · exact ⟨rfl, rfl⟩
  · exact ⟨rfl, rfl⟩
  · exact ⟨rfl, rfl⟩

theorem hasWord_of_formatRN {i : Instr} {a b : Byte} (h : formatRN a b = .ok i) : i.HasWord 0x22 a b := by
  obtain ⟨hb, rfl⟩ := formatRN_ok h
  exact ⟨by simpa [Instr.wellFormed] using hb, rfl⟩

theorem hasWord_of_decodeFields {op a b : Byte} {i : Instr} (h : decodeFields op a b = .ok i) : i.HasWord op a b := by
  rcases decodeFields_ok h with ⟨rfl, h⟩ | ⟨rfl, h⟩ | ⟨rfl, h⟩ | ⟨rfl, rfl⟩ | ⟨rfl, h⟩ | ⟨rfl, h⟩ | ⟨rfl, h⟩ |
    ⟨rfl, h⟩ | ⟨rfl, h⟩ | ⟨rfl, h⟩ | ⟨rfl, h⟩ | ⟨rfl, h⟩ | ⟨rfl, h⟩ | ⟨rfl, h⟩ | ⟨rfl, h⟩ | ⟨rfl, h⟩ | ⟨rfl, h⟩ |
    ⟨rfl, h⟩ | ⟨rfl, h⟩
  · exact hasWord_of_formatS h fun _ => ⟨rfl, rfl⟩
  · exact hasWord_of_formatV h fun _ => ⟨rfl, rfl⟩
  · exact hasWord_of_formatV h fun _ => ⟨rfl, rfl⟩
  · exact ⟨rfl, rfl⟩
  · exact hasWord_of_formatRN h
  · exact hasWord_of_formatN h ⟨rfl, rfl⟩
  · exact hasWord_of_formatN h ⟨rfl, rfl⟩
  · exact hasWord_of_formatF h fun _ => ⟨rfl, rfl⟩
  · exact hasWord_of_formatX h
  · exact hasWord_of_formatN h ⟨rfl, rfl⟩
  · exact hasWord_of_formatN h ⟨rfl, rfl⟩
  · exact hasWord_of_formatS h fun _ => ⟨rfl, rfl⟩
  · exact hasWord_of_formatN h ⟨rfl, rfl⟩
  · exact hasWord_of_formatN h ⟨rfl, rfl⟩
  · exact hasWord_of_formatN h ⟨rfl, rfl⟩
  · exact hasWord_of_formatS h fun _ => ⟨rfl, rfl⟩
  · exact hasWord_of_formatN h ⟨rfl, rfl⟩
  · exact hasWord_of_formatN h ⟨rfl, rfl⟩
  · exact hasWord_of_formatV h fun _ => ⟨rfl, rfl⟩

/-- Settles O2: a word is the pack of its own bytes, and a format that accepts the operands loses no bit of them. -/
theorem encodeOfDecodeIsTheWord : Obligations.EncodeOfDecodeIsTheWord := by
  intro w i h
  obtain ⟨hwf, hword⟩ := hasWord_of_decodeFields h
  exact ⟨hwf, hword.trans (packWord_fields w)⟩

end Sys2Proof
end

section
/-! PROOFS. The words that decode are those of the opcode map (30_encoding.md R118). -/

namespace Sys2Proof
open Machine

/-! ## A word and the rows it matches -/

/-- A word that matches a row fixing the opcode matches it byte by byte. -/
theorem fields_of_row {w mask pattern : CmdWord} (h : w &&& mask = pattern) (hop : opOf mask = 0xFF) :
    opOf w = opOf pattern ∧ operandA w &&& operandA mask = operandA pattern ∧
      operandB w &&& operandB mask = operandB pattern := by
  have hones : opOf w &&& opOf mask = opOf w := by rw [hop]; exact BitVec.and_allOnes
  subst h
  refine ⟨hones.symm.trans ?_, ?_, ?_⟩ <;> simp [opOf, operandA, operandB, BitVec.extractLsb'_and]

/-- A row that fixes the whole word selects one word. -/
theorem eq_of_full_row {w pattern : CmdWord} (h : w &&& 0xFFFFFF = pattern) : w = pattern :=
  BitVec.and_allOnes.symm.trans h

/-- A row that fixes the opcode, operand B as 0 and some bits of operand A as 0: where the opcode's format accepts all
such operands, the decoder accepts the row's words. -/
theorem decode_accepts_of_row {w mask pattern : CmdWord} (h : w &&& mask = pattern)
    (hformat : ∀ a, a &&& operandA mask = 0 → ∃ i, decodeFields (opOf pattern) a 0 = .ok i)
    (hop : opOf mask = 0xFF := by decide) (hB : operandB mask = 0xFF := by decide)
    (hzero : operandA pattern = 0 ∧ operandB pattern = 0 := by decide) : ∃ i, decode w = .ok i := by
  obtain ⟨hopw, hA, hBw⟩ := fields_of_row h hop
  have hB0 : operandB w = 0 := by
    rw [hB, hzero.2] at hBw
    exact BitVec.and_allOnes.symm.trans hBw
  rw [decode_eq_fields, hopw, hB0]
  exact hformat _ (hA.trans hzero.1)

/-- A row that fixes the opcode alone. -/
theorem decode_of_opcode_row {w pattern : CmdWord} (h : w &&& 0x0000FF = pattern) :
    decode w = decodeFields (opOf pattern) (operandA w) (operandB w) := by
  rw [decode_eq_fields, (fields_of_row h (by decide)).1]

/-- Masking a word with operand B's bits keeps operand B alone. -/
theorem and_operandB_mask (w : CmdWord) : w &&& 0xFF0000 = packWord 0 0 (operandB w) := by
  have hones : operandB w &&& 0xFF = operandB w := BitVec.and_allOnes
  have hB : operandB (w &&& 0xFF0000) = operandB w &&& 0xFF := BitVec.extractLsb'_and
  have hA : operandA (w &&& 0xFF0000) = operandA w &&& 0#8 := BitVec.extractLsb'_and
  have hop : opOf (w &&& 0xFF0000) = opOf w &&& 0#8 := BitVec.extractLsb'_and
  rw [← packWord_fields (w &&& 0xFF0000), hB, hA, hop, hones, BitVec.and_zero, BitVec.and_zero]
  rfl

/-- RDBURST's length is not zero exactly where the word has a bit in operand B. -/
theorem and_operandB_mask_ne_zero_iff (w : CmdWord) : w &&& 0xFF0000 ≠ 0 ↔ operandB w ≠ 0 := by
  rw [and_operandB_mask]
  refine not_congr ⟨fun h => ?_, fun h => by rw [h]; rfl⟩
  rw [← operandB_packWord 0 0 (operandB w), h]
  rfl

/-! ## The two formats that check bits of operand A -/

theorem formatS_accepts (f : Settings → Instr) {a : Byte} (h : a &&& 0x23 = 0) : ∃ i, formatS f a 0 = .ok i := by
  have key : ∀ a : Byte, a &&& 0x23 = 0 → a.extractLsb' 0 2 = 0 ∧ (unpackSettings a).isSome := by decide
  obtain ⟨hlow, hsome⟩ := key a h
  obtain ⟨set, hset⟩ := Option.isSome_iff_exists.mp hsome
  exact ⟨f set, by simp [formatS, hlow, hset]⟩

theorem formatF_accepts (f : Control2 → Instr) {a : Byte} (h : a &&& 0x3E = 0) : ∃ i, formatF f a 0 = .ok i :=
  ⟨f (control2OfByte a), by rw [formatF, if_neg (by decide), if_neg (not_not.mpr h)]⟩

/-! ## The two directions -/

theorem decode_accepts_of_legalWord {w : CmdWord} (h : legalWord w = true) : ∃ i, decode w = .ok i := by
  simp only [legalWord, List.any_cons, List.any_nil, Bool.or_false, Bool.or_eq_true, Bool.and_eq_true, beq_iff_eq,
    bne_iff_ne] at h
  rcases h with (h | h | h | h | h | h | h | h | h | h | h | h | h | h | h | h | h | h | h | h) | ⟨h, hlength⟩
  · exact decode_accepts_of_row h fun _ => formatS_accepts .encset
  · exact decode_accepts_of_row h fun a _ => ⟨.decset a, rfl⟩
  · exact decode_accepts_of_row h fun a _ => ⟨.rdb a, rfl⟩
  · exact ⟨_, (decode_of_opcode_row h).trans rfl⟩
  · exact ⟨.getst, by rw [eq_of_full_row h]; rfl⟩
  · exact ⟨.getc2, by rw [eq_of_full_row h]; rfl⟩
  · exact decode_accepts_of_row h fun _ => formatF_accepts .setc2
  · exact ⟨.rdaxisX, by rw [eq_of_full_row h]; rfl⟩
  · exact ⟨.rdaxisY, by rw [eq_of_full_row h]; rfl⟩
  · exact ⟨.rdaxisZ, by rw [eq_of_full_row h]; rfl⟩
  · exact ⟨.rdall, by rw [eq_of_full_row h]; rfl⟩
  · exact ⟨.rdtemp, by rw [eq_of_full_row h]; rfl⟩
  · exact decode_accepts_of_row h fun _ => formatS_accepts .new
  · exact ⟨.reset, by rw [eq_of_full_row h]; rfl⟩
  · exact ⟨.stby, by rw [eq_of_full_row h]; rfl⟩
  · exact ⟨.isrdy, by rw [eq_of_full_row h]; rfl⟩
  · exact decode_accepts_of_row h fun _ => formatS_accepts .chset
  · exact ⟨.getset, by rw [eq_of_full_row h]; rfl⟩
  · exact ⟨.getsrp, by rw [eq_of_full_row h]; rfl⟩
  · exact decode_accepts_of_row h fun a _ => ⟨.setsrp a, rfl⟩
  · have hn := (and_operandB_mask_ne_zero_iff w).mp hlength
    exact ⟨_, (decode_of_opcode_row h).trans (formatRN_of_ne_zero _ hn)⟩

/-- Every command's word matches the command's row. -/
theorem encode_matches_row (i : Instr) : Laws.TableRow.Statement i := by
  cases i with
  | encset set => exact Laws.TableRow.encset set
  | decset v => exact Laws.TableRow.decset v
  | rdb r => exact Laws.TableRow.rdb r
  | wrb r v => exact Laws.TableRow.wrb r v
  | rdburst r n => exact Laws.TableRow.rdburst r n
  | setc2 f => exact Laws.TableRow.setc2 f
  | new set => exact Laws.TableRow.new set
  | chset set => exact Laws.TableRow.chset set
  | setsrp v => exact Laws.TableRow.setsrp v
  | getst | getc2 | rdaxisX | rdaxisY | rdaxisZ | rdall | rdtemp | reset | stby | isrdy | getset | getsrp => rfl

theorem legalWord_encode {i : Instr} (hwf : i.wellFormed = true) : legalWord (encode i) = true := by
  have hrow : encode i &&& (rowOf i).mask = (rowOf i).pattern := encode_matches_row i
  cases i with
  | rdburst r n =>
    have hn : n ≠ 0 := by simpa [Instr.wellFormed] using hwf
    have hlength : encode (.rdburst r n) &&& 0xFF0000 ≠ 0 :=
      (and_operandB_mask_ne_zero_iff _).mpr (by rwa [encode, operandB_packWord])
    simp only [rowOf] at hrow
    simp only [legalWord, hrow, beq_self_eq_true, bne_iff_ne.mpr hlength, Bool.and_true, Bool.or_true]
  | encset _ | decset _ | rdb _ | wrb _ _ | setc2 _ | new _ | chset _ | setsrp _ =>
    simp only [rowOf] at hrow
    simp only [legalWord, List.any_cons, hrow, beq_self_eq_true, Bool.true_or, Bool.or_true]
  | getst | getc2 | rdaxisX | rdaxisY | rdaxisZ | rdall | rdtemp | reset | stby | isrdy | getset | getsrp => rfl

/-- Settles O3: a word that decodes is its command's, which matches the command's row; and each row's words pass the
checks of its format. -/
theorem decoderAcceptsExactlyTheOpcodeMap : Obligations.DecoderAcceptsExactlyTheOpcodeMap := by
  intro w
  refine ⟨fun ⟨i, hi⟩ => ?_, decode_accepts_of_legalWord⟩
  obtain ⟨hwf, rfl⟩ := encodeOfDecodeIsTheWord w i hi
  exact legalWord_encode hwf

/-- Settles O4: each listed word is decoded. -/
theorem listedWordsDecodeAsListed : Obligations.ListedWordsDecodeAsListed := by
  unfold Obligations.ListedWordsDecodeAsListed
  decide

end Sys2Proof
end

section
/-! PROOFS. The Settings codec's round trips (40_bitcodec.md R143), the payload bytes of a response (30_encoding.md
R103, R104), and what ENCSET and DECSET answer (40_bitcodec.md R141, R142). -/

namespace Sys2Proof.Machine

/-! ## The Settings codec -/

/-- A Settings byte has the three codes in their fields, bit 1 zero and bit 0 one (R141). -/
theorem encodeSettings_fields (set : Settings) :
    (encodeSettings set).extractLsb' 6 2 = codeOsr set.osr ∧ (encodeSettings set).extractLsb' 4 2 = codeRng set.rng ∧
      (encodeSettings set).extractLsb' 2 2 = codeOdr set.odr ∧ (encodeSettings set).getLsbD 1 = false ∧
      (encodeSettings set).getLsbD 0 = true := by
  rcases set with ⟨odr, osr, rng⟩
  cases odr <;> cases osr <;> cases rng <;> decide

/-- The Settings of a byte are those whose codes are the byte's fields. -/
theorem codes_of_decodeSettings {v : Byte} {set : Settings} (h : decodeSettings v = some set) :
    codeOsr set.osr = v.extractLsb' 6 2 ∧ codeRng set.rng = v.extractLsb' 4 2 ∧
      codeOdr set.odr = v.extractLsb' 2 2 := by
  unfold decodeSettings unpackSettings at h
  split at h
  · next rng hrng =>
    obtain rfl := Option.some.inj h
    exact ⟨codeOsr_valueOsr _, codeRng_of_valueRng hrng, codeOdr_valueOdr _⟩
  · cases h

/-- Bits 1:0 of a Settings byte are not read (R142). -/
theorem decodeSettings_and_mask (v : Byte) : decodeSettings (v &&& 0xFC) = decodeSettings v := by
  have key : ∀ v : Byte, unpackSettings (v &&& 0xFC) = unpackSettings v := by decide
  exact key v

/-- A Settings byte is undefined exactly where its bit 5 is set, the high bit of the RNG code. -/
theorem decodeSettings_eq_none_iff (v : Byte) : decodeSettings v = none ↔ v.getLsbD 5 = true := by
  have key : ∀ v : Byte, v.extractLsb' 4 2 = 0b10 ∨ v.extractLsb' 4 2 = 0b11 ↔ v.getLsbD 5 = true := by decide
  exact (onlyTheRangeFieldCanFailToDecode.2 v).trans (key v)

theorem exists_decodeSettings {v : Byte} (h : v.getLsbD 5 = false) : ∃ set, decodeSettings v = some set := by
  refine Option.ne_none_iff_exists'.mp fun hnone => ?_
  exact Bool.false_ne_true (h.symm.trans ((decodeSettings_eq_none_iff v).mp hnone))

/-- Settles O25: the fields are kept both ways, and the two low bits of a packed byte are zero before bit 0 is set. -/
theorem settingsCodecRoundTrips : Obligations.SettingsCodecRoundTrips := by
  refine ⟨fun set => (unpackSettings_packSettings set).2.2, fun v set h => ?_⟩
  rw [encodeSettings, packSettings_of_unpackSettings h]

/-! ## Payload bytes -/

/-- The payload bytes of a two-byte reading are the bytes it was read from. -/
theorem int16Bytes_le16s (lo hi : Byte) : int16Bytes (le16s lo hi) = [lo, hi] := by
  have hpattern : BitVec.ofInt 16 (le16s lo hi) = hi.setWidth 16 <<< 8 ||| lo.setWidth 16 := BitVec.ofInt_toInt
  have hlo : (hi.setWidth 16 <<< 8 ||| lo.setWidth 16 : BitVec 16).extractLsb' 0 8 = lo := by
    apply BitVec.eq_of_getLsbD_eq
    intro i hi
    simp [hi, show i < 16 by omega]
  have hhi : (hi.setWidth 16 <<< 8 ||| lo.setWidth 16 : BitVec 16).extractLsb' 8 8 = hi := by
    apply BitVec.eq_of_getLsbD_eq
    intro i hi'
    simp [hi', show 8 + i < 16 by omega]
  rw [int16Bytes, hpattern, hlo, hhi]

theorem payloadOfStatus_statusOfByte (v : Byte) : payloadOfStatus (statusOfByte v) = v &&& 0x07 := by
  revert v
  decide

/-- Settles O31: each reading, serialized, is the bytes it was made from, under its type's mask. -/
theorem responsePortCarriesCodeAndPayload : Obligations.ResponsePortCarriesCodeAndPayload := by
  refine ⟨fun _ => ⟨rfl, rfl⟩, fun _ => ⟨rfl, rfl⟩, fun _ => ⟨rfl, rfl⟩, fun _ => ⟨rfl, rfl⟩, rfl, rfl, rfl,
    fun _ => rfl, fun _ => rfl, fun x0 x1 y0 y1 z0 z1 => ?axes, int16Bytes_le16s, fun v => ?int8, fun v => ?status,
    fun v => ?control2, fun v set h => ?settings, rfl, rfl⟩
  case axes => simp [Payload.serialize, int16Bytes_le16s]
  case int8 => simp [Payload.serialize]
  case status => rw [Payload.serialize, payloadOfStatus_statusOfByte]
  case control2 => rw [Payload.serialize, byteOfControl2_control2OfByte]
  case settings => rw [Payload.serialize, packSettings_of_unpackSettings h]

/-! ## ENCSET and DECSET -/

/-- A command that has been answered has ended, if no step of it took a word from the port. -/
theorem State.close_ended {s m : State} (r : Reply) (hcmds : m.cmds = s.cmds := by rfl) : Ended s (m.close r) r :=
  ⟨rfl, rfl, rfl, rfl, rfl, hcmds⟩

theorem State.accept_close_ended (s : State) (r : Reply) : Ended s (s.accept.close r) r := State.close_ended r

/-- Settles O32: ENCSET is answered at once with the Settings byte. -/
theorem encsetRespondsThePackedByte : Obligations.EncsetRespondsThePackedByte := by
  intro set s
  obtain ⟨hosr, hrng, hodr, h1, h0⟩ := encodeSettings_fields set
  refine ⟨_, encodeSettings set, exec_encset set s, s.accept_close_ended _, s.accept_close_noBus _, hosr, hrng, hodr,
    h1, h0, ?_, ?_, ?_⟩
  · cases set.osr <;> rfl
  · cases set.rng <;> rfl
  · cases set.odr <;> rfl

theorem decodeReply_of_some {v : Byte} {set : Settings} (h : decodeSettings v = some set) :
    decodeReply v = .ok (.settings set) := by
  rw [decodeReply, h]

theorem decodeReply_of_undefined {v : Byte} (h : v.getLsbD 5 = true) : decodeReply v = .invalidEncoding v := by
  rw [decodeReply, (decodeSettings_eq_none_iff v).mpr h]

/-- Settles O33: a byte whose RNG code is defined decodes, to the Settings of its three codes. -/
theorem decsetRespondsTheFields : Obligations.DecsetRespondsTheFields := by
  intro v s h5
  obtain ⟨set, hset⟩ := exists_decodeSettings h5
  exact ⟨_, set, exec_decset v s, decodeReply_of_some hset ▸ s.accept_close_ended _, s.accept_close_noBus _,
    codes_of_decodeSettings hset⟩

/-- Settles O34: a byte whose RNG code is undefined does not decode. -/
theorem decsetOfAnUndefinedRangeIsInvalid : Obligations.DecsetOfAnUndefinedRangeIsInvalid := by
  intro v s h5
  exact ⟨_, exec_decset v s, decodeReply_of_undefined h5 ▸ s.accept_close_ended _, s.accept_close_noBus _⟩

end Sys2Proof.Machine
end

section
/-! PROOFS. What a command can do, said once. A command is its numbered steps (10_state.md R24), run after the lifecycle
check of 60_exceptions.md R212; a command that uses the bus makes its transactions in order until one fails or never
returns, or it makes them all and answers (60_exceptions.md R201, 70_reset_and_hazards.md R244). -/

namespace Sys2Proof.Machine

/-! ## The numbered steps of a command -/

/-- The numbered steps of each command, the lifecycle check left out. -/
def bodyOf : Instr → State → Seq
  | .encset set, s => respond (.byte (encodeSettings set)) s
  | .decset v, s => decodeBody v s
  | .rdb r, s => (memRead r 1 s).andThen fun s => respond (.byte (s.bufAt 0)) s
  | .wrb r v, s => memWrite r v s
  | .rdburst r n, s => (memRead r n.toNat s).andThen fun s => respond (.bytes s.buf) s
  | .getst, s => (memRead 0x06 1 s).andThen fun s =>
      respond (.status (statusOfByte (s.bufAt 0))) (s.emit (.flagsRead 0x06 (s.bufAt 0)))
  | .getc2, s => (memRead 0x0A 1 s).andThen fun s =>
      respond (.control2 (control2OfByte (s.bufAt 0))) (s.emit (.flagsRead 0x0A (s.bufAt 0)))
  | .setc2 f, s => (memWrite 0x0A (byteOfControl2 f) s).andThen fun s =>
      .go (s.emit (.flagsWritten (byteOfControl2 f)))
  | .rdaxisX, s => (memRead 0x00 2 s).andThen fun s => respond (.int16 (le16s (s.bufAt 0) (s.bufAt 1))) s
  | .rdaxisY, s => (memRead 0x02 2 s).andThen fun s => respond (.int16 (le16s (s.bufAt 0) (s.bufAt 1))) s
  | .rdaxisZ, s => (memRead 0x04 2 s).andThen fun s => respond (.int16 (le16s (s.bufAt 0) (s.bufAt 1))) s
  | .rdall, s => (memRead 0x00 6 s).andThen fun s =>
      respond (.axes (le16s (s.bufAt 0) (s.bufAt 1)) (le16s (s.bufAt 2) (s.bufAt 3)) (le16s (s.bufAt 4) (s.bufAt 5))) s
  | .rdtemp, s => (memRead 0x07 2 s).andThen fun s => respond (.int16 (le16s (s.bufAt 0) (s.bufAt 1))) s
  | .new set, s =>
      (((Seq.go ((s.setInit false).setStandby false)).andThen resetBody).andThen (settingsBody set)).andThen fun s =>
        .go ((s.emit (.settingsApplied (encodeSettings set))).setInit true)
  | .reset, s => resetBody s
  | .stby, s =>
      ((memRead 0x09 1 s).andThen fun s => memWrite 0x09 (s.bufAt 0 &&& 0xFE) (s.setT (s.bufAt 0))).andThen fun s =>
        .go (s.setStandby true)
  | .isrdy, s => (memRead 0x06 1 s).andThen fun s => respond (.bool ((s.bufAt 0).getLsbD 0)) s
  | .chset set, s => (settingsBody set s).andThen fun s => .go (s.emit (.settingsApplied (encodeSettings set)))
  | .getset, s => (memRead 0x09 1 s).andThen fun s => decodeBody (s.bufAt 0) (s.setT (s.bufAt 0))
  | .getsrp, s => (memRead 0x0B 1 s).andThen fun s => respond (.int8 (sext (s.bufAt 0))) s
  | .setsrp v, s => memWrite 0x0B v s

/-- Every command of the model is its numbered steps behind the lifecycle check it needs. -/
theorem exec_eq_run (i : Instr) (s : State) :
    exec i s = .next (if needsInit i then runInitialized (bodyOf i) s else runAlways (bodyOf i) s) := by
  cases i <;> rfl

/-- A command that passes the lifecycle check runs its steps. -/
theorem exec_checked {i : Instr} {s : State} (h : needsInit i = true → s.init = true) :
    exec i s = .next (bodyOf i s.accept).finish := by
  rw [exec_eq_run]
  split
  · next hneeds => rw [runInitialized_init (h hneeds)]
  · rfl

/-- A command that does not pass it answers NotInitialized (60_exceptions.md R204). -/
theorem exec_uninitialized {i : Instr} {s : State} (hneeds : needsInit i = true) (hinit : s.init = false) :
    exec i s = .next (s.accept.close .notInitialized) := by
  rw [exec_eq_run, if_pos hneeds, runInitialized_uninit hinit]

/-- ENCSET and DECSET answer at once. -/
theorem exec_pure {i : Instr} (hpure : isPure i = true) : ∃ r, ∀ s, exec i s = .next (s.accept.close r) := by
  obtain ⟨set, rfl⟩ | ⟨v, rfl⟩ := (isPure_iff i).mp hpure
  · exact ⟨_, exec_encset set⟩
  · exact ⟨_, exec_decset v⟩

theorem needsInit_eq_false_of_isPure {i : Instr} (h : isPure i = true) : needsInit i = false := by
  simp [needsInit, h]

theorem isNew_eq_false_of_isPure {i : Instr} (h : isPure i = true) : isNew i = false := by
  cases i <;> simp_all [isPure, isNew]

theorem isNew_eq_false_of_needsInit {i : Instr} (h : needsInit i = true) : isNew i = false := by
  simp_all [needsInit]

/-! ## A command part of the way -/

/-- The command accepted in `s` has made its first `k` transactions, all of them answered `ok`, and goes on in `m`. -/
structure Underway (s : State) (k : Nat) (m : State) : Prop where
  answers : ∀ j < k, (s.envAt j).answer = .ok
  env : m.env = s.env.drop k
  txns : m.txns = s.txns + k
  busy : m.busy = true
  resp : m.resp = none
  cmds : m.cmds = s.cmds
  length : m.bus.length = k
  address : ∀ x ∈ m.bus, x.op.address = 0x0D
  allOk : AllOk m.bus
  dev : k = 0 → m.dev = s.dev
  mem : s.dev.memOk → m.dev.memOk

theorem Underway.accept (s : State) : Underway s 0 s.accept where
  answers := nofun
  env := rfl
  txns := rfl
  busy := rfl
  resp := rfl
  cmds := rfl
  length := rfl
  address := nofun
  allOk := nofun
  dev := fun _ => rfl
  mem := id

variable {s m : State} {k : Nat}

/-- The two bits, the sequencer's fields and the events are no part of it. -/
theorem Underway.adjust (h : Underway s k m) (init standby : Bool) (stepNo : Nat) (t : Byte) (buf : List Byte)
    (events : List DiagEvent) : Underway s k { m with init, standby, stepNo, t, buf, events } :=
  { h with }

/-- The command's next transaction is the environment's `k`-th. -/
theorem Underway.envAt (h : Underway s k m) (j : Nat) : m.envAt j = s.envAt (k + j) := by
  simp [State.envAt, h.env, h.txns, Nat.add_assoc]

theorem Underway.answer (h : Underway s k m) : (m.envAt 0).answer = (s.envAt k).answer := by
  rw [h.envAt, Nat.add_zero]

theorem Underway.transact (h : Underway s k m) {op : BusOp} (hop : op.address = 0x0D)
    (hok : (m.envAt 0).answer = .ok) : Underway s (k + 1) (m.transact op) where
  answers j hj := by
    obtain hj | rfl := Nat.lt_succ_iff_lt_or_eq.mp hj
    · exact h.answers j hj
    · exact h.answer ▸ hok
  env := by simp [h.env]
  txns := by simp [h.txns, Nat.add_assoc]
  busy := h.busy
  resp := h.resp
  cmds := h.cmds
  length := by simp [h.length]
  address := by
    rw [State.transact_bus, List.forall_mem_append, List.forall_mem_singleton]
    exact ⟨h.address, hop⟩
  allOk := by
    rw [AllOk, State.transact_bus, List.forall_mem_append, List.forall_mem_singleton, State.resultNow_ok hok]
    exact ⟨h.allOk, rfl⟩
  dev := nofun
  mem hs := m.devAfter_memOk op (h.mem hs)

/-! ## Steps that make transactions -/

/-- The steps behind `q` have brought the command accepted in `s` to its `K`-th transaction, with `standby` 0 and `init`
as `b`, unless an earlier one failed or never returned. -/
inductive Seq.Makes (s : State) (b : Bool) (K : Nat) : Seq → Prop
  | go {m : State} (hm : Underway s K m) (hinit : m.init = b) (hstandby : m.standby = false) : Makes s b K (.go m)
  | failed {k : Nat} {m : State} {op : BusOp} {e : BusError} (hk : k < K) (hm : Underway s k m) (hinit : m.init = b)
      (hstandby : m.standby = false) (hop : op.address = 0x0D) (herr : (m.envAt 0).answer = .err e) :
      Makes s b K (.stop (.transportError e) (m.transact op))
  | hung {k : Nat} {m : State} {op : BusOp} (hk : k < K) (hm : Underway s k m) (hinit : m.init = b)
      (hstandby : m.standby = false) (hop : op.address = 0x0D) (hhang : (m.envAt 0).answer = .hang) :
      Makes s b K (.hung (m.transact op))

theorem memRead_makes (addr : Byte) (n : Nat) (hm : Underway s k m) : (memRead addr n m).Makes s m.init (k + 1) := by
  have hm' : Underway s k (m.setStandby false) := hm.adjust ..
  rcases memRead_cases addr n m with ⟨h, hrun⟩ | ⟨e, h, hrun⟩ | ⟨h, hrun⟩ <;> rw [hrun]
  · exact .go ((hm'.transact rfl h).adjust ..) rfl rfl
  · exact .failed k.lt_succ_self hm' rfl rfl rfl h
  · exact .hung k.lt_succ_self hm' rfl rfl rfl h

theorem memWrite_makes (addr v : Byte) (hm : Underway s k m) : (memWrite addr v m).Makes s m.init (k + 1) := by
  have hm' : Underway s k (m.setStandby false) := hm.adjust ..
  rcases memWrite_cases addr v m with ⟨h, hrun⟩ | ⟨e, h, hrun⟩ | ⟨h, hrun⟩ <;> rw [hrun]
  · exact .go (hm'.transact rfl h) rfl rfl
  · exact .failed k.lt_succ_self hm' rfl rfl rfl h
  · exact .hung k.lt_succ_self hm' rfl rfl rfl h

variable {b : Bool} {K : Nat} {q : Seq} {f : State → Seq}

/-- More steps make more transactions. -/
theorem Seq.Makes.andThen (hq : q.Makes s b k) (hk : k ≤ K)
    (hf : ∀ m, Underway s k m → m.init = b → (f m).Makes s b K) : (q.andThen f).Makes s b K := by
  cases hq with
  | go hm hinit hstandby => exact hf _ (hm.adjust ..) hinit
  | failed hlt hm hinit hstandby hop herr => exact .failed (hlt.trans_le hk) hm hinit hstandby hop herr
  | hung hlt hm hinit hstandby hop hhang => exact .hung (hlt.trans_le hk) hm hinit hstandby hop hhang

/-- RESET's body, two writes. -/
theorem resetBody_makes (hm : Underway s k m) : (resetBody m).Makes s m.init (k + 2) := by
  have hm' : Underway s k (m.emit .resetStart) := hm.adjust ..
  have hpulse : (memWrite 0x0A 0x80 (m.emit .resetStart)).Makes s m.init (k + 1) := memWrite_makes _ _ hm'
  exact hpulse.andThen (Nat.le_succ _) fun m' hm' hinit => hinit ▸ memWrite_makes 0x0A 0x40 hm'

/-! ## How a command that uses the bus comes out -/

/-- The replies of a command that has made all its transactions: a payload, none for NEW and STBY; or InvalidEncoding,
by GETSET alone. -/
def Answers (i : Instr) : Reply → Prop
  | .ok p => isNew i = true ∨ i = .stby → p = .nothing
  | .invalidEncoding _ => i = .getset
  | .transportError _ | .illegalCommand _ | .notInitialized => False

/-- How a command `i` that uses the bus, accepted in `s`, comes out. -/
inductive Outcome (i : Instr) (s : State) : State → Prop
  /-- Transaction `k` failed. -/
  | failed {k : Nat} {m : State} {op : BusOp} {e : BusError} (hk : k < txnCount i) (hm : Underway s k m)
      (hinit : m.init = (!isNew i && s.init)) (hstandby : m.standby = false) (hop : op.address = 0x0D)
      (herr : (m.envAt 0).answer = .err e) : Outcome i s ((m.transact op).close (.transportError e))
  /-- Transaction `k` never returned. -/
  | hung {k : Nat} {m : State} {op : BusOp} (hk : k < txnCount i) (hm : Underway s k m)
      (hinit : m.init = (!isNew i && s.init)) (hstandby : m.standby = false) (hop : op.address = 0x0D)
      (hhang : (m.envAt 0).answer = .hang) : Outcome i s (m.transact op)
  /-- All its transactions succeeded. -/
  | answered {m : State} {r : Reply} (hm : Underway s (txnCount i) m) (hinit : m.init = (isNew i || s.init))
      (hstandby : m.standby = decide (i = .stby)) (hr : Answers i r) : Outcome i s (m.close r)

variable {i : Instr}

/-- A command whose steps but the last make all its transactions. -/
theorem Seq.Makes.outcome (hq : q.Makes s (!isNew i && s.init) (txnCount i)) (hbody : bodyOf i s.accept = q.andThen f)
    (hf : ∀ m, Underway s (txnCount i) m → m.init = (!isNew i && s.init) → m.standby = false →
      Outcome i s (f m).finish) : Outcome i s (bodyOf i s.accept).finish := by
  rw [hbody]
  cases hq with
  | go hm hinit hstandby => exact hf _ (hm.adjust ..) hinit hstandby
  | failed hlt hm hinit hstandby hop herr => exact .failed hlt hm hinit hstandby hop herr
  | hung hlt hm hinit hstandby hop hhang => exact .hung hlt hm hinit hstandby hop hhang

/-- The last step of a command other than NEW and STBY answers, and leaves the two bits alone. -/
theorem Outcome.of_answer (hnew : isNew i = false) (hstby : i ≠ .stby) (hm : Underway s (txnCount i) m)
    (hinit : m.init = (!isNew i && s.init)) (hstandby : m.standby = false) {r : Reply} (hr : Answers i r) :
    Outcome i s (m.close r) :=
  .answered hm (by simpa [hnew] using hinit) (by simpa [hstby] using hstandby) hr

/-- A command whose last step is its last write succeeds with nothing. -/
theorem Seq.Makes.outcome_nothing (hq : q.Makes s (!isNew i && s.init) (txnCount i)) (hnew : isNew i = false)
    (hstby : i ≠ .stby) : Outcome i s q.finish := by
  cases hq with
  | go hm hinit hstandby => exact .of_answer (r := .ok .nothing) hnew hstby hm hinit hstandby fun _ => rfl
  | failed hlt hm hinit hstandby hop herr => exact .failed hlt hm hinit hstandby hop herr
  | hung hlt hm hinit hstandby hop hhang => exact .hung hlt hm hinit hstandby hop hhang

theorem ne_new_ne_stby_of_txnCount_eq_one (h : txnCount i = 1) : isNew i = false ∧ i ≠ .stby := by
  cases i <;> simp_all [txnCount, isNew]

theorem txnCount_of_isSingleRead (h : isSingleRead i = true) : txnCount i = 1 := by
  cases i with
  | rdb _ | rdburst _ _ | getst | getc2 | rdaxisX | rdaxisY | rdaxisZ | rdall | rdtemp | isrdy | getset | getsrp => rfl
  | encset _ | decset _ | wrb _ _ | setc2 _ | new _ | reset | stby | chset _ | setsrp _ => cases h

/-- A single-read command is its read and a last step, which answers and may emit an event. -/
theorem bodyOf_singleRead (hi : isSingleRead i = true) :
    ∃ addr n f, (∀ s, bodyOf i s = (memRead addr n s).andThen f) ∧
      ∀ m, ∃ r events, (f m).finish = { m with events }.close r ∧ Answers i r := by
  have hpayload {i : Instr} (hcount : txnCount i = 1) (p : Payload) : Answers i (.ok p) := fun h => by
    obtain ⟨hnew, hstby⟩ := ne_new_ne_stby_of_txnCount_eq_one hcount
    exact absurd h (by simp [hnew, hstby])
  cases i with
  | rdb _ | rdburst _ _ | getst | getc2 | rdaxisX | rdaxisY | rdaxisZ | rdall | rdtemp | isrdy | getsrp =>
    exact ⟨_, _, _, fun _ => by rw [bodyOf], fun m => ⟨_, _, rfl, hpayload rfl _⟩⟩
  | getset =>
    refine ⟨_, _, _, fun _ => by rw [bodyOf], fun m => ⟨decodeReply (m.bufAt 0), m.events, ?_, ?_⟩⟩
    · rw [decodeBody_eq_stop]
      rfl
    · unfold decodeReply
      split
      · exact hpayload rfl _
      · exact rfl
  | encset _ | decset _ | wrb _ _ | setc2 _ | new _ | reset | stby | chset _ | setsrp _ => cases hi

/-- A single-read command. -/
theorem outcome_of_singleRead (hi : isSingleRead i = true) (s : State) : Outcome i s (bodyOf i s.accept).finish := by
  obtain ⟨addr, n, f, hbody, hf⟩ := bodyOf_singleRead hi
  have hcount := txnCount_of_isSingleRead hi
  obtain ⟨hnew, hstby⟩ := ne_new_ne_stby_of_txnCount_eq_one hcount
  have hread : (memRead addr n s.accept).Makes s (!isNew i && s.init) (txnCount i) := by
    rw [hcount, hnew]
    exact memRead_makes addr n (Underway.accept s)
  refine hread.outcome (hbody _) fun m hm hinit hstandby => ?_
  obtain ⟨r, events, hrun, hr⟩ := hf m
  have hm' : Underway s (txnCount i) { m with events } := hm.adjust ..
  rw [hrun]
  exact .of_answer hnew hstby hm' hinit hstandby hr

/-- A write, and a diagnostic event. -/
theorem outcome_of_write {addr v : Byte} {ev : DiagEvent}
    (hbody : ∀ s, bodyOf i s = (memWrite addr v s).andThen fun m => .go (m.emit ev)) (hcount : txnCount i = 1)
    (s : State) : Outcome i s (bodyOf i s.accept).finish := by
  obtain ⟨hnew, hstby⟩ := ne_new_ne_stby_of_txnCount_eq_one hcount
  have hwrite : (memWrite addr v s.accept).Makes s (!isNew i && s.init) (txnCount i) := by
    rw [hcount, hnew]
    exact memWrite_makes addr v (Underway.accept s)
  refine hwrite.outcome (hbody _) fun m hm hinit hstandby => ?_
  have hm' : Underway s (txnCount i) (m.emit ev) := hm.adjust ..
  exact .of_answer (r := .ok .nothing) hnew hstby hm' hinit hstandby fun _ => rfl

/-- NEW's three writes, and `init` set. -/
theorem outcome_of_new (set : Settings) (s : State) : Outcome (.new set) s (bodyOf (.new set) s.accept).finish := by
  have hstart : Underway s 0 ((s.accept.setInit false).setStandby false).tick := (Underway.accept s).adjust ..
  have hwrites := (resetBody_makes hstart).andThen (Nat.le_succ 2) (f := settingsBody set) fun m hm hinit => by
    rw [← hinit]
    exact memWrite_makes _ _ hm
  refine hwrites.outcome (i := .new set)
    (f := fun m => .go ((m.emit (.settingsApplied (encodeSettings set))).setInit true)) rfl
    fun m hm _ hstandby => ?_
  exact .answered (r := .ok .nothing) (hm.adjust true m.standby _ _ _ _) rfl hstandby fun _ => rfl

/-- STBY's read and write, and `standby` set. -/
theorem outcome_of_stby (s : State) : Outcome .stby s (bodyOf .stby s.accept).finish := by
  have htxns := (memRead_makes 0x09 1 (Underway.accept s)).andThen (Nat.le_succ 1)
    (f := fun s => memWrite 0x09 (s.bufAt 0 &&& 0xFE) (s.setT (s.bufAt 0))) fun m hm hinit => by
      have hm' : Underway s 1 (m.setT (m.bufAt 0)) := hm.adjust ..
      rw [← hinit]
      exact memWrite_makes _ _ hm'
  refine htxns.outcome (i := .stby) (f := fun m => .go (m.setStandby true)) rfl
    fun m hm hinit _ => ?_
  exact .answered (r := .ok .nothing) (hm.adjust m.init true _ _ _ _) hinit rfl fun _ => rfl

/-- Every command that uses the bus comes out in one of the three ways. -/
theorem bodyOf_outcome (hpure : isPure i = false) (s : State) : Outcome i s (bodyOf i s.accept).finish := by
  cases i with
  | encset _ | decset _ => cases hpure
  | rdb _ | rdburst _ _ | getst | getc2 | rdaxisX | rdaxisY | rdaxisZ | rdall | rdtemp | isrdy | getset | getsrp =>
    exact outcome_of_singleRead rfl s
  | wrb r v => exact (memWrite_makes r v (Underway.accept s)).outcome_nothing (i := .wrb r v) rfl nofun
  | setc2 f => exact outcome_of_write (fun _ => rfl) rfl s
  | new set => exact outcome_of_new set s
  | reset => exact (resetBody_makes (Underway.accept s)).outcome_nothing (i := .reset) rfl nofun
  | stby => exact outcome_of_stby s
  | chset set => exact outcome_of_write (fun _ => rfl) rfl s
  | setsrp v => exact (memWrite_makes 0x0B v (Underway.accept s)).outcome_nothing (i := .setsrp v) rfl nofun

/-- Everything a command can do: ENCSET and DECSET answer at once, a command that needs `init = 1` without it answers
NotInitialized, and every other makes its transactions. -/
theorem exec_cases {t : State} (h : exec i s = .next t) :
    (isPure i = true ∧ ∃ r, t = s.accept.close r) ∨
    (needsInit i = true ∧ s.init = false ∧ t = s.accept.close .notInitialized) ∨
    (isPure i = false ∧ (needsInit i = true → s.init = true) ∧ Outcome i s t) := by
  by_cases hpure : isPure i = true
  · obtain ⟨r, hr⟩ := exec_pure hpure
    exact .inl ⟨hpure, r, Host.Outcome.next.inj (h.symm.trans (hr s))⟩
  rw [Bool.not_eq_true] at hpure
  by_cases hcheck : needsInit i = true → s.init = true
  · obtain rfl := Host.Outcome.next.inj (h.symm.trans (exec_checked hcheck))
    exact .inr (.inr ⟨hpure, hcheck, bodyOf_outcome hpure s⟩)
  · obtain ⟨hneeds, hinit⟩ := Classical.not_imp.mp hcheck
    rw [Bool.not_eq_true] at hinit
    exact .inr (.inl ⟨hneeds, hinit, Host.Outcome.next.inj (h.symm.trans (exec_uninitialized hneeds hinit))⟩)

end Sys2Proof.Machine
end

section
/-! PROOFS. The block as a whole: reset and the command port (10_state.md R39, R44; 70_reset_and_hazards.md R246), the
lifecycle bits (10_state.md R20 to R22, 44_device_controller.md R180), and the invariant every step keeps. -/

namespace Sys2Proof.Machine

/-! ## Reset and the command port -/

/-- Settles O5: the fields of the state after reset; Control2's bits 7 and 6 are masked out of its draw. -/
theorem resetLeavesTheBlockUninitialized : Obligations.ResetLeavesTheBlockUninitialized := by
  have hflags : ∀ v : Byte, (v &&& 0x3F).getLsbD 7 = false ∧ (v &&& 0x3F).getLsbD 6 = false := by decide
  have hcontrol2 : State.reset.dev.reg 0x0A = Config.residue 0 0x0A &&& 0x3F := rfl
  rw [Obligations.ResetLeavesTheBlockUninitialized, hcontrol2]
  exact ⟨rfl, rfl, rfl, rfl, rfl, rfl, rfl, (hflags _).1, (hflags _).2, fun a ha => if_neg ha⟩

theorem step_idle {s : State} (hbusy : s.busy = false) (hcmds : s.cmds = []) : step s = .next s := by
  simp [step, State.takeWord, hbusy, hcmds]

theorem step_of_busy {s : State} (hbusy : s.busy = true) : step s = .fault .transportNeverReturns := by
  simp [step, hbusy]

theorem step_decoded {s : State} {w : CmdWord} {rest : List CmdWord} {i : Instr} (hbusy : s.busy = false)
    (hcmds : s.cmds = w :: rest) (hw : decode w = .ok i) : step s = exec i { s with cmds := rest } := by
  simp [step, State.takeWord, hbusy, hcmds, hw]

theorem step_illegal {s : State} {w : CmdWord} {rest : List CmdWord} {e : DecodeError} (hbusy : s.busy = false)
    (hcmds : s.cmds = w :: rest) (hw : decode w = .error e) :
    step s = .next (State.close (State.accept { s with cmds := rest }) (.illegalCommand w)) := by
  simp [step, State.takeWord, hbusy, hcmds, hw, refuseWord]

/-- Settles O6: the step takes the word and runs what it decodes to. -/
theorem stepRunsTheDecodedCommand : Obligations.StepRunsTheDecodedCommand :=
  fun _ _ _ _ hbusy hcmds hw => step_decoded hbusy hcmds hw

/-- Settles O7: a word outside the opcode map does not decode, and is accepted and answered in one go. -/
theorem illegalWordIsAnsweredIllegalCommand : Obligations.IllegalWordIsAnsweredIllegalCommand := by
  intro s w rest hbusy hcmds hlegal
  cases hw : decode w with
  | ok i =>
    have := (decoderAcceptsExactlyTheOpcodeMap w).mp ⟨i, hw⟩
    exact absurd (this.symm.trans hlegal) Bool.noConfusion
  | error e =>
    have hnobus := State.accept_close_noBus { s with cmds := rest } (.illegalCommand w)
    exact ⟨_, step_illegal hbusy hcmds hw, State.accept_close_ended _ _,
      { hnobus with traffic := { hnobus.traffic with } }⟩

/-- Settles O8: with no word waiting the step changes nothing. -/
theorem idleBlockWaitsUnchanged : Obligations.IdleBlockWaitsUnchanged := fun _ hbusy hcmds => step_idle hbusy hcmds

/-! ## The lifecycle bits -/

variable {i : Instr} {s t : State}

/-- Settles O11: a command other than NEW goes through its transactions with `init` as it was. -/
theorem onlyNewWritesInit : Obligations.OnlyNewWritesInit := by
  intro i s t h hnew
  obtain ⟨-, r, rfl⟩ | ⟨-, -, rfl⟩ | ⟨-, -, hout⟩ := exec_cases h
  · rfl
  · rfl
  · cases hout with
    | failed _ _ hinit => simpa [hnew] using hinit
    | hung _ _ hinit => simpa [hnew] using hinit
    | answered _ hinit => simpa [hnew] using hinit

/-- NEW and STBY answer nothing but success. -/
theorem Answers.eq_nothing {r : Reply} (h : Answers i r) (hi : isNew i = true ∨ i = .stby) : r = .ok .nothing := by
  cases r with
  | ok p => rw [h hi]
  | invalidEncoding v =>
    obtain rfl : i = .getset := h
    simp [isNew] at hi
  | transportError e => cases h
  | illegalCommand w => cases h
  | notInitialized => cases h

/-- Settles O12: every transaction leaves `standby` 0, and STBY alone sets it after its last. -/
theorem onlySuccessfulStbySetsStandby : Obligations.OnlySuccessfulStbySetsStandby := by
  intro i s t h hset
  obtain ⟨hpure, r, rfl⟩ | ⟨hneeds, -, rfl⟩ | ⟨-, -, hout⟩ := exec_cases h
  · exact .inr ⟨hset, rfl, isNew_eq_false_of_isPure hpure⟩
  · exact .inr ⟨hset, rfl, isNew_eq_false_of_needsInit hneeds⟩
  · cases hout with
    | failed _ _ _ hstandby => simp [hstandby] at hset
    | hung _ _ _ hstandby => simp [hstandby] at hset
    | answered _ _ hstandby hr =>
      obtain rfl : i = .stby := by simpa [hstandby] using hset
      exact .inl ⟨rfl, by rw [State.close_resp, hr.eq_nothing (.inr rfl)]⟩

/-- A command that uses the bus and ends has answered, or a transaction has failed; the two bits with each. -/
theorem Outcome.ended_bits (h : Outcome i s t) (hbusy : t.busy = false) :
    (∃ r, t.resp = some r ∧ Answers i r ∧ t.init = (isNew i || s.init) ∧ t.standby = decide (i = .stby)) ∨
    (∃ e, t.resp = some (.transportError e) ∧ t.init = (!isNew i && s.init) ∧ t.standby = false) := by
  cases h with
  | failed _ _ hinit hstandby => exact .inr ⟨_, rfl, hinit, hstandby⟩
  | hung _ hm => exact absurd (hm.busy.symm.trans hbusy) Bool.noConfusion
  | answered _ hinit hstandby hr => exact .inl ⟨_, rfl, hr, hinit, hstandby⟩

/-- Settles O13: the table's rows are the ways a command can end. -/
theorem lifecycleFollowsTheTransitionTable : Obligations.LifecycleFollowsTheTransitionTable := by
  intro i s t h hbusy
  obtain ⟨hpure, r, rfl⟩ | ⟨hneeds, hinit, rfl⟩ | ⟨hpure, hcheck, hout⟩ := exec_cases h
  · have hneeds := needsInit_eq_false_of_isPure hpure
    have hnew := isNew_eq_false_of_isPure hpure
    exact ⟨fun _ => ⟨rfl, rfl⟩, by simp [hnew], by simp [hneeds], by simp [hneeds]⟩
  · have hnew := isNew_eq_false_of_needsInit hneeds
    exact ⟨fun _ => ⟨rfl, rfl⟩, by simp [hnew], fun _ _ => ⟨hinit, rfl, rfl, rfl⟩, by simp [hinit]⟩
  · have hchecked (hneeds : needsInit i = true) (hinit : s.init = false) : False := by simp_all
    obtain ⟨r, hresp, hr, hinit, hstandby⟩ | ⟨e, hresp, hinit, hstandby⟩ := hout.ended_bits hbusy
    · refine ⟨by simp [hpure], fun hnew => ?_, fun hneeds hs => (hchecked hneeds hs).elim, fun _ hs => ?_⟩
      · obtain rfl := hr.eq_nothing (.inl hnew)
        have hstby : i ≠ .stby := by rintro rfl; cases hnew
        simp [hstandby, hinit, hnew, hresp, hstby]
      · refine ⟨by simp [hinit, hs], ?_⟩
        rw [hstandby, decide_eq_true_iff]
        exact ⟨fun hstby => ⟨hstby, hr.eq_nothing (.inr hstby) ▸ hresp⟩, And.left⟩
    · refine ⟨by simp [hpure], fun hnew => ?_, fun hneeds hs => (hchecked hneeds hs).elim, fun hneeds hs => ?_⟩
      · simp [hstandby, hinit, hnew, hresp]
      · simp [hstandby, hinit, isNew_eq_false_of_needsInit hneeds, hs, hresp]

/-- The steps of a command that uses the bus clear `standby` before anything else looks at the state. -/
theorem bodyOf_setStandby (hpure : isPure i = false) (s : State) (b : Bool) :
    bodyOf i (s.setStandby b) = bodyOf i s := by
  cases i with
  | encset _ | decset _ => cases hpure
  | _ => rfl

/-- Settles O14: the commands that use the bus clear `standby` before they look at anything, and the others do not look
at it. -/
theorem standbyFlagDecidesNothing : Obligations.StandbyFlagDecidesNothing := by
  intro i s t b h
  by_cases hpure : isPure i = true
  · obtain ⟨r, hr⟩ := exec_pure hpure
    obtain rfl := Host.Outcome.next.inj (h.symm.trans (hr s))
    exact ⟨_, hr _, rfl, rfl, rfl, rfl, rfl⟩
  rw [Bool.not_eq_true] at hpure
  by_cases hcheck : needsInit i = true → s.init = true
  · have hsame : exec i { s with standby := b } = exec i s := by
      rw [exec_checked hcheck, exec_checked (s := { s with standby := b }) hcheck,
        ← bodyOf_setStandby hpure s.accept b]
      rfl
    exact ⟨t, hsame.trans h, rfl, rfl, rfl, rfl, rfl⟩
  · obtain ⟨hneeds, hinit⟩ := Classical.not_imp.mp hcheck
    rw [Bool.not_eq_true] at hinit
    obtain rfl := Host.Outcome.next.inj (h.symm.trans (exec_uninitialized hneeds hinit))
    exact ⟨_, exec_uninitialized (s := { s with standby := b }) hneeds hinit, rfl, rfl, rfl, rfl, rfl⟩

/-- Settles O15: the lifecycle check comes first, and the command is answered there. -/
theorem commandBeforeNewIsNotInitialized : Obligations.CommandBeforeNewIsNotInitialized :=
  fun _ s hneeds hinit =>
    ⟨_, exec_uninitialized hneeds hinit, s.accept_close_ended _, s.accept_close_noBus _⟩

/-- Settles O17: a response is emitted where the command ends, and nowhere else. -/
theorem commandEndsWithOneResponse : Obligations.CommandEndsWithOneResponse := by
  intro i s t h
  obtain ⟨-, r, rfl⟩ | ⟨-, -, rfl⟩ | ⟨-, -, hout⟩ := exec_cases h
  · simp
  · simp
  · cases hout with
    | failed => simp
    | hung _ hm => simp [hm.busy, hm.resp]
    | answered => simp

/-! ## The invariant -/

/-- Settles O9: after power-on there is no cell, no bit set, no command and no transaction. -/
theorem invariantHoldsAtReset : Obligations.InvariantHoldsAtReset where
  mem := State.reset_memOk
  lifecycle := nofun
  idle := fun _ => ⟨rfl, rfl, rfl⟩
  reply := nofun
  bus := by decide

theorem txnCount_le_three (i : Instr) : txnCount i ≤ 3 := by
  cases i <;> simp [txnCount]

/-- A command answered at once keeps the invariant. -/
theorem State.Inv.accept_close (h : s.Inv) (r : Reply) : (s.accept.close r).Inv where
  mem := h.mem
  lifecycle := h.lifecycle
  idle := fun _ => ⟨rfl, rfl, rfl⟩
  reply := nofun
  bus := by simp [State.busOk]

/-- After the next transaction, whatever its result, only the last can have failed. -/
theorem Underway.busOk_transact {m : State} {k : Nat} (hm : Underway s k m) (hk : k < 3) {op : BusOp}
    (hop : op.address = 0x0D) : (m.transact op).busOk := by
  rw [State.busOk, State.transact_bus, List.dropLast_concat, List.forall_mem_append, List.forall_mem_singleton]
  exact ⟨by simp [hm.length]; omega, ⟨hm.address, hop⟩, hm.allOk⟩

theorem Underway.busOk {m : State} {k : Nat} (hm : Underway s k m) (hk : k ≤ 3) : m.busOk :=
  ⟨hm.length.trans_le hk, hm.address, fun x hx => hm.allOk x (List.dropLast_subset _ hx)⟩

/-- A command that uses the bus keeps the invariant. -/
theorem Outcome.inv (h : Outcome i s t) (hcheck : needsInit i = true → s.init = true) (hs : s.Inv) : t.Inv := by
  cases h with
  | @failed k m op e hk hm _ hstandby hop _ =>
    exact {
      mem := m.devAfter_memOk op (hm.mem hs.mem)
      lifecycle := by simp [State.lifecycleOk, hstandby]
      idle := fun _ => ⟨rfl, rfl, rfl⟩
      reply := nofun
      bus := hm.busOk_transact (hk.trans_le (txnCount_le_three i)) hop }
  | @hung k m op hk hm _ hstandby hop _ =>
    exact {
      mem := m.devAfter_memOk op (hm.mem hs.mem)
      lifecycle := by simp [State.lifecycleOk, hstandby]
      idle := by simp [State.idleOk, hm.busy]
      reply := fun _ => hm.resp
      bus := hm.busOk_transact (hk.trans_le (txnCount_le_three i)) hop }
  | @answered m r hm hinit hstandby _ =>
    refine ⟨hm.mem hs.mem, fun hset => ?_, fun _ => ⟨rfl, rfl, rfl⟩, nofun, hm.busOk (txnCount_le_three i)⟩
    obtain rfl : i = .stby := by simpa [hstandby] using hset
    simp [hinit, hcheck rfl]

theorem exec_inv (h : exec i s = .next t) (hs : s.Inv) : t.Inv := by
  obtain ⟨-, r, rfl⟩ | ⟨-, -, rfl⟩ | ⟨-, hcheck, hout⟩ := exec_cases h
  · exact hs.accept_close r
  · exact hs.accept_close _
  · exact hout.inv hcheck hs

/-- Settles O10: an idle step changes nothing, a refused word is answered at once, and a command keeps the invariant
however it comes out. -/
theorem stepKeepsTheInvariant : Obligations.StepKeepsTheInvariant := by
  intro s t hs h
  have hbusy : s.busy = false := by
    by_contra hbusy
    rw [step_of_busy (by simpa using hbusy)] at h
    cases h
  cases hcmds : s.cmds with
  | nil =>
    obtain rfl := Host.Outcome.next.inj (h.symm.trans (step_idle hbusy hcmds))
    exact hs
  | cons w rest =>
    have hs' : State.Inv { s with cmds := rest } := { hs with }
    cases hw : decode w with
    | ok i => exact exec_inv ((step_decoded hbusy hcmds hw).symm.trans h) hs'
    | error e =>
      obtain rfl := Host.Outcome.next.inj (h.symm.trans (step_illegal hbusy hcmds hw))
      exact hs'.accept_close _

end Sys2Proof.Machine
end

section
/-! PROOFS. The commands of one read transaction, answered: RDB, RDBURST (41_register_access.md), GETST, GETC2
(42_flag_register.md), RDAXIS, RDALL, RDTEMP (43_axis_data_reader.md), ISRDY, GETSET, GETSRP
(44_device_controller.md). -/

namespace Sys2Proof.Machine

/-! ## One read -/

/-- The command accepted in `s` has made its read, and it was answered. -/
def State.afterRead (s : State) (addr : Byte) (n : Nat) : State :=
  ((s.accept.setStandby false).transact (.writeRead Config.busAddr addr n)).setBuf
    (s.devNow.wake.readBytes addr n s.drawNow)

/-- A read at `addr` that gave `bs`, and no other transaction, and the command ended with `r`. -/
structure ReadDone (s t : State) (addr : Byte) (bs : List Byte) (r : Reply) : Prop where
  ended : Ended s t r
  traffic : Traffic s t [⟨.writeRead 0x0D addr bs.length, .ok bs⟩]
  init : t.init = true
  standby : t.standby = false
  effect : ReadEffect s.devNow t.dev

variable {s : State}

theorem State.afterRead_dev (hok : (s.envAt 0).answer = .ok) (addr : Byte) (n : Nat) :
    (s.afterRead addr n).dev = s.devNow.afterRead addr n := State.devAfter_ok hok _

theorem State.afterRead_length (s : State) (addr : Byte) (n : Nat) : (s.afterRead addr n).buf.length = n :=
  Device.readBytes_length _ _ _ _

/-- The last step's response ends the command. -/
theorem State.afterRead_done (hinit : s.init = true) (hok : (s.envAt 0).answer = .ok) (addr : Byte) (n : Nat)
    (events : List DiagEvent) (r : Reply) :
    ReadDone s ({ s.afterRead addr n with events }.close r) addr (s.afterRead addr n).buf r where
  ended := State.close_ended _
  traffic := by
    rw [State.afterRead_length]
    exact {
      bus := congrArg (fun result => [Txn.mk (.writeRead 0x0D addr n) result]) (State.resultNow_ok hok _)
      env := List.drop_one.symm
      txns := rfl }
  init := hinit
  standby := rfl
  effect := by
    rw [State.close_dev]
    exact State.afterRead_dev hok addr n ▸ s.devNow.afterRead_effect addr n

/-- A command `i` in an initialized block, its read answered; what its last step does with the bytes is `hlast`. -/
theorem exec_read_done (i : Instr) (addr : Byte) (n : Nat) (events : List DiagEvent) (r : Reply) (hinit : s.init = true)
    (hok : (s.envAt 0).answer = .ok)
    (hlast : memRead addr n s.accept = .go (s.afterRead addr n) →
      (bodyOf i s.accept).finish = { s.afterRead addr n with events }.close r) :
    ∃ t, exec i s = .next t ∧ t.events = events ∧ t.dev = s.devNow.afterRead addr n ∧
      ReadDone s t addr (s.afterRead addr n).buf r := by
  refine ⟨_, exec_checked fun _ => hinit, ?_⟩
  rw [hlast (memRead_ok (s := s.accept) hok addr n)]
  exact ⟨rfl, State.afterRead_dev hok addr n, State.afterRead_done hinit hok addr n events r⟩

/-! ## The bytes of a read -/

/-- The first byte is the register's, as a read gives it. -/
theorem State.afterRead_bufAt_zero (s : State) (addr : Byte) (n : Nat) (hn : 0 < n) :
    (s.afterRead addr n).bufAt 0 = s.devNow.wake.view addr.toNat (s.drawNow 0) := by
  rw [State.bufAt]
  exact (Device.readBytes_getD _ _ _ _ _ hn).trans (Device.burstByte_zero _ _ _)

/-- Byte `i`, where it is defined, is register `addr + i`, as a read gives it. -/
theorem State.afterRead_bufAt (s : State) (addr : Byte) (n k : Nat) (hk : k < n)
    (h : k = 0 ∨ (s.devNow.rolPnt = true ∧ addr.toNat + k ≤ 0x0B ∧ addr.toNat + k ≠ 0x06)) :
    (s.afterRead addr n).bufAt k = s.devNow.wake.view (addr.toNat + k) (s.drawNow k) := by
  have hread : (s.afterRead addr n).bufAt k = s.devNow.wake.burstByte addr.toNat s.drawNow k :=
    Device.readBytes_getD _ _ _ _ _ hk
  rw [hread]
  obtain rfl | ⟨hrol, hB, h6⟩ := h
  · exact Device.burstByte_zero _ _ _
  · exact Device.burstByte_rol _ _ _ _ hrol hB h6

/-- Byte `k` of a burst over registers with no open bit is the register. -/
theorem State.afterRead_bufAt_data (s : State) (addr : Byte) (n k : Nat) (hk : k < n)
    (hrol : k = 0 ∨ s.devNow.rolPnt = true)
    (haddr : addr.toNat + k ≤ 0x08 ∨ addr.toNat + k = 0x0B) (h6 : addr.toNat + k ≠ 0x06) :
    (s.afterRead addr n).bufAt k = s.devNow.reg (addr.toNat + k) := by
  have hB : addr.toNat + k ≤ 0x0B := by omega
  rw [s.afterRead_bufAt addr n k hk (hrol.imp_right fun h => ⟨h, hB, h6⟩),
    Device.view_plain _ _ _ hB h6 (by omega) (by omega), Device.wake_reg]

theorem State.afterRead_buf_one (s : State) (addr : Byte) :
    (s.afterRead addr 1).buf = [(s.afterRead addr 1).bufAt 0] := rfl

/-! ## RegisterAccess -/

/-- Settles O35: the byte is the register as a read gives it. -/
theorem rdbRespondsTheRegister : Obligations.RdbRespondsTheRegister := by
  intro r s hinit hok
  obtain ⟨t, hrun, hevents, -, hdone⟩ := exec_read_done (.rdb r) r 1 [] (.ok (.byte ((s.afterRead r 1).bufAt 0)))
    hinit hok fun h => by rw [bodyOf, h]; rfl
  refine ⟨t, (s.afterRead r 1).bufAt 0, hrun, hdone.ended, hdone.traffic, hdone.init, hdone.standby, hevents, ?_,
    hdone.effect⟩
  rw [s.afterRead_bufAt_zero r 1 Nat.one_pos, Device.view_known]

/-- Settles O39: each byte that is defined is the register as a read gives it. -/
theorem rdburstRespondsConsecutiveRegisters : Obligations.RdburstRespondsConsecutiveRegisters := by
  intro r n s hinit hok hn
  obtain ⟨t, hrun, hevents, hdev, hdone⟩ := exec_read_done (.rdburst r n) r n.toNat []
    (.ok (.bytes (s.afterRead r n.toNat).buf)) hinit hok fun h => by rw [bodyOf, h]; rfl
  have hlength := s.afterRead_length r n.toNat
  have htraffic := hdone.traffic
  rw [hlength] at htraffic
  refine ⟨t, (s.afterRead r n.toNat).buf, hrun, hdone.ended, hlength, htraffic, hdone.init,
    hdone.standby, hevents, fun k hk hdef => ?_, hdone.effect, fun hrol hB => ?_⟩
  · rw [← State.bufAt, s.afterRead_bufAt r n.toNat k hk hdef, Device.view_known]
  · rw [hdev, Device.afterRead, Device.ptrAfterRead, if_pos ⟨hrol, hB⟩, BitVec.ofNat_toNat, BitVec.setWidth_eq]

/-- Settles O40: the two commands make the same read, and one byte serializes as the list of it. -/
theorem burstOfOneBehavesAsRdb : Obligations.BurstOfOneBehavesAsRdb := by
  intro r s t h
  by_cases hinit : s.init = true
  · obtain rfl := Host.Outcome.next.inj (h.symm.trans (exec_checked fun _ => hinit))
    refine ⟨_, exec_checked fun _ => hinit, ?_⟩
    have hcount : (1 : Byte).toNat = 1 := rfl
    rw [bodyOf, bodyOf, hcount]
    rcases memRead_cases r 1 s.accept with ⟨-, hrun⟩ | ⟨e, -, hrun⟩ | ⟨-, hrun⟩ <;> rw [hrun]
    · exact ⟨rfl, rfl, rfl⟩
    · exact ⟨rfl, rfl, rfl⟩
    · exact ⟨rfl, rfl, rfl⟩
  · rw [Bool.not_eq_true] at hinit
    obtain rfl := Host.Outcome.next.inj (h.symm.trans (exec_uninitialized rfl hinit))
    exact ⟨_, exec_uninitialized rfl hinit, rfl, rfl, rfl⟩

/-! ## FlagRegister -/

/-- Settles O42: the flags of the byte are those of the register, which the read then clears. -/
theorem getstRespondsTheFlagsAndClearsThem : Obligations.GetstRespondsTheFlagsAndClearsThem := by
  intro s hinit hok
  obtain ⟨t, hrun, hevents, -, hdone⟩ := exec_read_done .getst 0x06 1
    (if Config.diag then [.flagsRead 0x06 ((s.afterRead 0x06 1).bufAt 0)] else [])
    (.ok (.status (statusOfByte ((s.afterRead 0x06 1).bufAt 0)))) hinit hok fun h => by rw [bodyOf, h]; rfl
  have hbyte : (s.afterRead 0x06 1).bufAt 0 &&& 0x07 = s.devNow.reg 0x06 &&& 0x07 := by
    rw [s.afterRead_bufAt_zero 0x06 1 Nat.one_pos]
    exact Device.view_status _ _
  have hflags : statusOfByte ((s.afterRead 0x06 1).bufAt 0) = statusOfByte (s.devNow.reg 0x06) := by
    rw [← statusOfByte_and_mask, hbyte, statusOfByte_and_mask]
  exact ⟨t, _, hrun, hflags ▸ hdone.ended, hdone.traffic, hbyte, hdone.init, hdone.standby, hevents, hdone.effect⟩

/-- Settles O43: the flags of the byte are those of the register. -/
theorem getc2RespondsTheFlags : Obligations.Getc2RespondsTheFlags := by
  intro s hinit hok
  obtain ⟨t, hrun, hevents, -, hdone⟩ := exec_read_done .getc2 0x0A 1
    (if Config.diag then [.flagsRead 0x0A ((s.afterRead 0x0A 1).bufAt 0)] else [])
    (.ok (.control2 (control2OfByte ((s.afterRead 0x0A 1).bufAt 0)))) hinit hok fun h => by rw [bodyOf, h]; rfl
  have hbyte : (s.afterRead 0x0A 1).bufAt 0 &&& 0xC1 = s.devNow.reg 0x0A &&& 0xC1 := by
    rw [s.afterRead_bufAt_zero 0x0A 1 Nat.one_pos]
    exact Device.view_control2 _ _
  have hflags : control2OfByte ((s.afterRead 0x0A 1).bufAt 0) = control2OfByte (s.devNow.reg 0x0A) := by
    rw [← control2OfByte_and_mask, hbyte, control2OfByte_and_mask]
  exact ⟨t, _, hrun, hflags ▸ hdone.ended, hdone.traffic, hbyte, hdone.init, hdone.standby, hevents, hdone.effect⟩

/-! ## AxisDataReader -/

/-- A two-byte reading of the data registers at `addr` and after it, answered as one signed value. -/
theorem exec_int16_done (i : Instr) (addr : Byte) (hinit : s.init = true) (hok : (s.envAt 0).answer = .ok)
    (hbody : ∀ s, bodyOf i s = (memRead addr 2 s).andThen fun m =>
      respond (.int16 (le16s (m.bufAt 0) (m.bufAt 1))) m)
    (haddr : addr.toNat + 1 ≤ 0x08 ∧ addr.toNat ≠ 0x06 ∧ addr.toNat + 1 ≠ 0x06) :
    ∃ t hi, exec i s = .next t ∧ Ended s t (.ok (.int16 (le16s (s.devNow.reg addr.toNat) hi))) ∧
      Traffic s t [⟨.writeRead 0x0D addr 2, .ok [s.devNow.reg addr.toNat, hi]⟩] ∧
      (s.devNow.rolPnt = true → hi = s.devNow.reg (addr.toNat + 1)) ∧ t.init = true ∧ t.standby = false ∧
      t.events = [] ∧ ReadEffect s.devNow t.dev := by
  obtain ⟨h8, h6, h6'⟩ := haddr
  obtain ⟨t, hrun, hevents, -, hdone⟩ := exec_read_done i addr 2 []
    (.ok (.int16 (le16s ((s.afterRead addr 2).bufAt 0) ((s.afterRead addr 2).bufAt 1)))) hinit hok fun h => by
      rw [hbody, h]; rfl
  have hlo : (s.afterRead addr 2).bufAt 0 = s.devNow.reg addr.toNat :=
    s.afterRead_bufAt_data addr 2 0 (by decide) (.inl rfl) (.inl (by omega)) h6
  refine ⟨t, (s.afterRead addr 2).bufAt 1, hrun, hlo ▸ hdone.ended, hlo ▸ hdone.traffic, fun hrol => ?_,
    hdone.init, hdone.standby, hevents, hdone.effect⟩
  exact s.afterRead_bufAt_data addr 2 1 (by decide) (.inr hrol) (.inl h8) h6'

/-- Settles O47: each axis is a two-byte reading at its offset. -/
theorem rdaxisRespondsTheAxisValue : Obligations.RdaxisRespondsTheAxisValue := by
  intro s ax hinit hok
  cases ax with
  | x => exact exec_int16_done .rdaxisX 0x00 hinit hok (fun _ => rfl) (by decide)
  | y => exact exec_int16_done .rdaxisY 0x02 hinit hok (fun _ => rfl) (by decide)
  | z => exact exec_int16_done .rdaxisZ 0x04 hinit hok (fun _ => rfl) (by decide)

/-- Settles O49: the temperature is a two-byte reading at 0x07. -/
theorem rdtempRespondsTheTemperature : Obligations.RdtempRespondsTheTemperature :=
  fun _ hinit hok => exec_int16_done .rdtemp 0x07 hinit hok (fun _ => rfl) (by decide)

/-- Settles O48: six bytes of one read, each the data register at its place where ROL_PNT = 1. -/
theorem rdallRespondsTheThreeAxes : Obligations.RdallRespondsTheThreeAxes := by
  intro s hinit hok
  let b := (s.afterRead 0x00 6).bufAt
  obtain ⟨t, hrun, hevents, -, hdone⟩ := exec_read_done .rdall 0x00 6 []
    (.ok (.axes (le16s (b 0) (b 1)) (le16s (b 2) (b 3)) (le16s (b 4) (b 5)))) hinit hok fun h => by rw [bodyOf, h]; rfl
  have hbyte (k : Nat) (hk : k < 6) (hrol : k = 0 ∨ s.devNow.rolPnt = true) : b k = s.devNow.reg k := by
    have hdata := s.afterRead_bufAt_data 0x00 6 k hk hrol
    rw [show (0x00 : Byte).toNat + k = k from Nat.zero_add k] at hdata
    exact hdata (.inl (by omega)) (by omega)
  refine ⟨t, b 0, b 1, b 2, b 3, b 4, b 5, hrun, hdone.ended, hdone.traffic, hbyte 0 (by decide) (.inl rfl),
    fun hrol => ?_, hdone.init, hdone.standby, hevents, hdone.effect⟩
  exact ⟨hbyte 1 (by decide) (.inr hrol), hbyte 2 (by decide) (.inr hrol), hbyte 3 (by decide) (.inr hrol),
    hbyte 4 (by decide) (.inr hrol), hbyte 5 (by decide) (.inr hrol)⟩

/-! ## DeviceController -/

/-- Settles O53: DRDY is one of the flags, which the byte has as the register. -/
theorem isrdyRespondsDrdyAndClearsIt : Obligations.IsrdyRespondsDrdyAndClearsIt := by
  intro s hinit hok
  obtain ⟨t, hrun, hevents, -, hdone⟩ := exec_read_done .isrdy 0x06 1 []
    (.ok (.bool (((s.afterRead 0x06 1).bufAt 0).getLsbD 0))) hinit hok fun h => by rw [bodyOf, h]; rfl
  have hbyte : (s.afterRead 0x06 1).bufAt 0 &&& 0x07 = s.devNow.reg 0x06 &&& 0x07 := by
    rw [s.afterRead_bufAt_zero 0x06 1 Nat.one_pos]
    exact Device.view_status _ _
  have hdrdy : ((s.afterRead 0x06 1).bufAt 0).getLsbD 0 = (s.devNow.reg 0x06).getLsbD 0 := by
    simpa using congrArg (fun v => BitVec.getLsbD v 0) hbyte
  exact ⟨t, _, hrun, hdrdy ▸ hdone.ended, hdone.traffic, hbyte, hdone.init, hdone.standby, hevents, hdone.effect⟩

/-- GETSET reads a byte with the register's three fields, and answers with its decode. -/
theorem exec_getset_done (hinit : s.init = true) (hok : (s.envAt 0).answer = .ok) :
    ∃ t v, exec .getset s = .next t ∧ t.events = [] ∧ v &&& 0xFC = s.devNow.reg 0x09 &&& 0xFC ∧
      ReadDone s t 0x09 [v] (decodeReply v) := by
  obtain ⟨t, hrun, hevents, -, hdone⟩ := exec_read_done .getset 0x09 1 []
    (decodeReply ((s.afterRead 0x09 1).bufAt 0)) hinit hok fun h => by
      rw [bodyOf, h, Seq.andThen_go, decodeBody_eq_stop]; rfl
  refine ⟨t, (s.afterRead 0x09 1).bufAt 0, hrun, hevents, ?_, hdone⟩
  rw [s.afterRead_bufAt_zero 0x09 1 Nat.one_pos]
  exact Device.view_settings _ _

theorem decodeSettings_congr {u v : Byte} (h : u &&& 0xFC = v &&& 0xFC) : decodeSettings u = decodeSettings v := by
  rw [← decodeSettings_and_mask, h, decodeSettings_and_mask]

/-- Settles O55: a byte decodes as the register it agrees with on the three fields. -/
theorem getsetRespondsTheSettings : Obligations.GetsetRespondsTheSettings := by
  intro s hinit hok h5
  obtain ⟨t, v, hrun, hevents, hbyte, hdone⟩ := exec_getset_done hinit hok
  obtain ⟨set, hset⟩ := exists_decodeSettings h5
  have hreply := decodeReply_of_some ((decodeSettings_congr hbyte).trans hset)
  exact ⟨t, v, set, hrun, hreply ▸ hdone.ended, hset, hdone.traffic, hbyte, hdone.init, hdone.standby, hevents,
    hdone.effect⟩

/-- Settles O56: bit 5 is one of the bits the byte has as the register. -/
theorem getsetOfAnUndefinedRangeIsInvalid : Obligations.GetsetOfAnUndefinedRangeIsInvalid := by
  intro s hinit hok h5
  obtain ⟨t, v, hrun, hevents, hbyte, hdone⟩ := exec_getset_done hinit hok
  have hv5 : v.getLsbD 5 = true := by
    rw [← decodeSettings_eq_none_iff] at h5 ⊢
    exact (decodeSettings_congr hbyte).trans h5
  exact ⟨t, v, hrun, decodeReply_of_undefined hv5 ▸ hdone.ended, hdone.traffic, hbyte, hdone.init, hdone.standby,
    hevents, hdone.effect⟩

/-- Settles O57: the period register has no open bit. -/
theorem getsrpRespondsTheSignedPeriod : Obligations.GetsrpRespondsTheSignedPeriod := by
  intro s hinit hok
  obtain ⟨t, hrun, hevents, -, hdone⟩ := exec_read_done .getsrp 0x0B 1 []
    (.ok (.int8 (sext ((s.afterRead 0x0B 1).bufAt 0)))) hinit hok fun h => by rw [bodyOf, h]; rfl
  have hbyte : (s.afterRead 0x0B 1).bufAt 0 = s.devNow.reg 0x0B :=
    s.afterRead_bufAt_data 0x0B 1 0 (by decide) (.inl rfl) (.inr rfl) (by decide)
  rw [State.afterRead_buf_one, hbyte] at hdone
  exact ⟨t, hrun, hdone.ended, hdone.traffic, hdone.init, hdone.standby, hevents, hdone.effect⟩

end Sys2Proof.Machine
end

section
/-! PROOFS. Where a command stops (60_exceptions.md R200, R206; 70_reset_and_hazards.md R244): at the first transaction
that fails or never returns, and nowhere else; and where InvalidEncoding comes from. -/

namespace Sys2Proof.Machine

variable {i : Instr} {s m t : State} {k k' : Nat}

/-- A command stops at the first transaction that is not answered `ok`. -/
theorem Underway.eq_of_first_not_ok (hm : Underway s k' m) (hm' : (m.envAt 0).answer ≠ .ok)
    (hok : ∀ j < k, (s.envAt j).answer = .ok) (hk : (s.envAt k).answer ≠ .ok) : k' = k := by
  rw [hm.answer] at hm'
  obtain hlt | heq | hgt := Nat.lt_trichotomy k' k
  · exact absurd (hok k' hlt) hm'
  · exact heq
  · exact absurd (hm.answers k hgt) hk

/-- A command that answers has had all its transactions answered `ok`. -/
theorem Underway.not_of_not_ok {P : Prop} (hm : Underway s k' m) (hlt : k < k') (hk : (s.envAt k).answer ≠ .ok) : P :=
  absurd (hm.answers k hlt) hk

/-- The first transaction that fails, at `k`, ends the command. -/
theorem Outcome.failed_at {e : BusError} (h : Outcome i s t) (hlt : k < txnCount i)
    (hok : ∀ j < k, (s.envAt j).answer = .ok) (herr : (s.envAt k).answer = .err e) :
    ∃ m op, Underway s k m ∧ m.init = (!isNew i && s.init) ∧ m.standby = false ∧ (m.envAt 0).answer = .err e ∧
      t = (m.transact op).close (.transportError e) := by
  have hne : (s.envAt k).answer ≠ .ok := by simp [herr]
  cases h with
  | @failed k' m op e' _ hm hinit hstandby _ hans =>
    obtain rfl := hm.eq_of_first_not_ok (by simp [hans]) hok hne
    obtain rfl : e' = e := by simpa [hm.answer, herr] using hans.symm
    exact ⟨m, op, hm, hinit, hstandby, hans, rfl⟩
  | hung _ hm _ _ _ hans =>
    obtain rfl := hm.eq_of_first_not_ok (by simp [hans]) hok hne
    simp [hm.answer, herr] at hans
  | answered hm => exact hm.not_of_not_ok hlt hne

/-- The first transaction that never returns, at `k`, is where the command stays. -/
theorem Outcome.hung_at (h : Outcome i s t) (hlt : k < txnCount i) (hok : ∀ j < k, (s.envAt j).answer = .ok)
    (hhang : (s.envAt k).answer = .hang) :
    ∃ m op, Underway s k m ∧ m.standby = false ∧ (m.envAt 0).answer = .hang ∧ t = m.transact op := by
  have hne : (s.envAt k).answer ≠ .ok := by simp [hhang]
  cases h with
  | failed _ hm _ _ _ hans =>
    obtain rfl := hm.eq_of_first_not_ok (by simp [hans]) hok hne
    simp [hm.answer, hhang] at hans
  | @hung k' m op _ hm _ hstandby _ hans =>
    obtain rfl := hm.eq_of_first_not_ok (by simp [hans]) hok hne
    exact ⟨m, op, hm, hstandby, hans, rfl⟩
  | answered hm => exact hm.not_of_not_ok hlt hne

/-! ## A failed transaction -/

theorem txnCount_pos (hpure : isPure i = false) : 0 < txnCount i := by
  cases i <;> simp_all [isPure, txnCount]

/-- Before its first transaction a command finds the device as it was. -/
theorem Underway.devNow (hm : Underway s 0 m) : m.devNow = s.devNow := by
  rw [State.devNow, State.devNow, hm.dev rfl, hm.envAt]

/-- A transaction that fails: it is the last of the record, and the device it found goes into an unknown state. -/
theorem Underway.transact_failed {e : BusError} (hm : Underway s k m) (herr : (m.envAt 0).answer = .err e) (op : BusOp)
    (r : Reply) : Traffic s ((m.transact op).close r) (m.bus ++ [⟨op, .err e⟩]) ∧
      UnknownEffect m.devNow ((m.transact op).close r).dev := by
  refine ⟨⟨by simp [State.resultNow_err herr], by simp [hm.env, hm.length], ?_⟩, ?_⟩
  · simp [hm.txns, hm.length, Nat.add_assoc]
  · rw [State.close_dev, State.transact_dev, State.devAfter_err herr]
    exact m.devNow.unknown_effect

/-- Settles O18: the command stops at its first transaction, which was the only one. -/
theorem firstTransactionFailureEndsTheCommand : Obligations.FirstTransactionFailureEndsTheCommand := by
  intro i s e hpure hcheck herr
  obtain ⟨m, op, hm, hinit, hstandby, hans, ht⟩ :=
    (bodyOf_outcome hpure s).failed_at (txnCount_pos hpure) nofun herr
  obtain ⟨htraffic, heffect⟩ := hm.transact_failed hans op (.transportError e)
  rw [List.length_eq_zero_iff.mp hm.length] at htraffic
  rw [hm.devNow] at heffect
  refine ⟨_, op, exec_checked hcheck, ?_⟩
  rw [ht]
  exact ⟨State.close_ended (m := m.transact op) _ hm.cmds, htraffic, hstandby, hinit, heffect⟩

/-! ## A transaction that never returns -/

theorem AllOk.hang_not_mem {bus : List Txn} (h : AllOk bus) (op : BusOp) : ⟨op, .hang⟩ ∉ bus :=
  fun hmem => Bool.false_ne_true (h _ hmem)

/-- Settles O23: the transaction that never returns is the last one, and the block stays busy with no response; a
command that has ended has no such transaction. -/
theorem transactionThatNeverReturnsBlocksForever : Obligations.TransactionThatNeverReturnsBlocksForever := by
  refine ⟨fun i s k hlt hcheck hok hhang => ?_, fun i s t h hstuck => ?_⟩
  · have hpure : isPure i = false := by cases i <;> simp_all [isPure, txnCount]
    obtain ⟨m, op, hm, hstandby, hans, ht⟩ := (bodyOf_outcome hpure s).hung_at hlt hok hhang
    refine ⟨_, op, exec_checked hcheck, ?_⟩
    rw [ht]
    have hdev : (m.transact op).dev = m.devNow.unknown := by rw [State.transact_dev, State.devAfter_hang hans]
    refine ⟨hm.busy, hm.resp, hstandby, by simp [hm.length], by simp [State.resultNow_hang hans], fun a => ?_, ?_,
      step_of_busy hm.busy⟩
    · rw [hdev, Device.unknown_epoch, Device.unknown_reg]
    · rw [hdev, Device.unknown_measuring]
  · have hended (hbusy : t.busy = false) (hbus : ∀ op, ⟨op, .hang⟩ ∉ t.bus) : False := by simp_all
    obtain ⟨-, r, rfl⟩ | ⟨-, -, rfl⟩ | ⟨-, -, hout⟩ := exec_cases h
    · exact (hended rfl nofun).elim
    · exact (hended rfl nofun).elim
    · cases hout with
      | failed _ hm _ _ _ hans =>
        exact (hended rfl fun op => by simp [State.resultNow_err hans, hm.allOk.hang_not_mem]).elim
      | @hung _ m op _ hm _ hstandby _ hans =>
        exact ⟨hm.busy, hm.resp, hstandby, ⟨op, by simp [State.resultNow_hang hans]⟩, step_of_busy hm.busy⟩
      | answered hm => exact (hended rfl hm.allOk.hang_not_mem).elim

/-! ## InvalidEncoding -/

/-- A decode answers InvalidEncoding with its own byte alone, where bit 5 is set. -/
theorem decodeReply_eq_invalid {u v : Byte} (h : decodeReply u = .invalidEncoding v) :
    u = v ∧ v.getLsbD 5 = true := by
  unfold decodeReply at h
  split at h
  · cases h
  · next hnone =>
    obtain rfl := Reply.invalidEncoding.inj h
    exact ⟨rfl, (decodeSettings_eq_none_iff u).mp hnone⟩

/-- Settles O20: DECSET and GETSET alone decode a Settings byte, and the decode answers with that byte. -/
theorem invalidEncodingComesFromADecodeAlone : Obligations.InvalidEncodingComesFromADecodeAlone := by
  intro i s t v h hresp
  by_cases hpure : isPure i = true
  · obtain ⟨set, rfl⟩ | ⟨u, rfl⟩ := (isPure_iff i).mp hpure
    · obtain rfl := Host.Outcome.next.inj (h.symm.trans (exec_encset set s))
      simp at hresp
    · obtain rfl := Host.Outcome.next.inj (h.symm.trans (exec_decset u s))
      obtain ⟨rfl, h5⟩ := decodeReply_eq_invalid (Option.some.inj hresp)
      exact ⟨h5, .inl rfl⟩
  obtain ⟨hpure', -⟩ | ⟨-, -, rfl⟩ | ⟨-, hcheck, hout⟩ := exec_cases h
  · exact absurd hpure' hpure
  · simp at hresp
  · cases hout with
    | failed => simp at hresp
    | hung _ hm => simp [hm.resp] at hresp
    | answered hm _ _ hr =>
      obtain rfl := Option.some.inj hresp
      obtain rfl : i = .getset := hr
      obtain ⟨t, u, hrun, -, -, hdone⟩ := exec_getset_done (hcheck rfl) (hm.answers 0 Nat.one_pos)
      obtain rfl := Host.Outcome.next.inj (h.symm.trans hrun)
      obtain ⟨rfl, h5⟩ := decodeReply_eq_invalid (Option.some.inj (hdone.ended.resp.symm.trans hresp))
      exact ⟨h5, .inr ⟨rfl, hdone.traffic.bus⟩⟩

end Sys2Proof.Machine
end

section
/-! PROOFS. The commands of one write transaction, answered: WRB (41_register_access.md), SETC2 (42_flag_register.md),
CHSET, SETSRP (44_device_controller.md); and what each access leaves in the device (20_memory.md R71 to R76). -/

namespace Sys2Proof.Machine

/-! ## One write -/

/-- The state a write of `v` at `addr` leaves. -/
def State.wrote (m : State) (addr v : Byte) : State :=
  (m.setStandby false).transact (.write Config.busAddr addr v)

variable {s m : State} {k : Nat}

@[simp] theorem State.wrote_envAt (m : State) (addr v : Byte) (k : Nat) : (m.wrote addr v).envAt k = m.envAt (k + 1) :=
  State.transact_envAt (m.setStandby false) (.write Config.busAddr addr v) k

theorem State.wrote_bus (hok : (m.envAt 0).answer = .ok) (addr v : Byte) :
    (m.wrote addr v).bus = m.bus ++ [⟨.write 0x0D addr v, .ok []⟩] :=
  congrArg (fun result => m.bus ++ [Txn.mk (.write 0x0D addr v) result]) (State.resultNow_write_ok hok _ _ _)

theorem State.wrote_dev (hok : (m.envAt 0).answer = .ok) (addr v : Byte) :
    (m.wrote addr v).dev = m.devNow.afterWrite addr v := State.devAfter_ok hok _

theorem Underway.wrote (hm : Underway s k m) (hok : (m.envAt 0).answer = .ok) (addr v : Byte) :
    Underway s (k + 1) (m.wrote addr v) :=
  Underway.transact (hm.adjust m.init false m.stepNo m.t m.buf m.events) rfl hok

/-- The record of a command part of the way. -/
theorem Underway.traffic (hm : Underway s k m) : Traffic s m m.bus :=
  ⟨rfl, hm.length.symm ▸ hm.env, hm.length.symm ▸ hm.txns⟩

/-- A write of `v` at `addr`, and no other transaction, and the command succeeded with nothing. -/
structure WriteDone (s t : State) (addr v : Byte) : Prop where
  ended : Ended s t (.ok .nothing)
  traffic : Traffic s t [⟨.write 0x0D addr v, .ok []⟩]
  init : t.init = true
  standby : t.standby = false
  dev : t.dev = s.devNow.afterWrite addr v

/-- A command `i` in an initialized block, its write answered; that its last step only emits `events` is `hlast`. -/
theorem exec_write_done (i : Instr) (addr v : Byte) (events : List DiagEvent) (hinit : s.init = true)
    (hok : (s.envAt 0).answer = .ok)
    (hlast : memWrite addr v s.accept = .go (s.accept.wrote addr v) →
      (bodyOf i s.accept).finish = { s.accept.wrote addr v with events }.close (.ok .nothing)) :
    ∃ t, exec i s = .next t ∧ t.events = events ∧ WriteDone s t addr v := by
  have hm := (Underway.accept s).wrote hok addr v
  have htraffic := hm.traffic
  rw [State.wrote_bus (m := s.accept) hok] at htraffic
  refine ⟨_, exec_checked fun _ => hinit, ?_⟩
  rw [hlast (memWrite_ok (s := s.accept) hok addr v)]
  exact ⟨rfl, State.close_ended _, ⟨htraffic.bus, htraffic.env, htraffic.txns⟩, hinit, rfl,
    State.wrote_dev (m := s.accept) hok addr v⟩

theorem exec_wrb_done (r v : Byte) (hinit : s.init = true) (hok : (s.envAt 0).answer = .ok) :
    ∃ t, exec (.wrb r v) s = .next t ∧ t.events = [] ∧ WriteDone s t r v :=
  exec_write_done (.wrb r v) r v [] hinit hok fun h => by rw [bodyOf, h]; rfl

theorem exec_setc2_done (f : Control2) (hinit : s.init = true) (hok : (s.envAt 0).answer = .ok) :
    ∃ t, exec (.setc2 f) s = .next t ∧ Emitted t [.flagsWritten (byteOfControl2 f)] ∧
      WriteDone s t 0x0A (byteOfControl2 f) :=
  exec_write_done (.setc2 f) 0x0A (byteOfControl2 f) _ hinit hok fun h => by rw [bodyOf, h]; rfl

/-! ## What a write leaves in `measuring` and `modeFree` -/

/-- A store elsewhere than in Settings wakes the device. -/
structure WakeEffect (d d' : Device) : Prop where
  measuring : d'.measuring = if d.measuring = .zero then .one else d.measuring
  modeFree : d'.modeFree = if d.measuring = .zero then true else d.modeFree

theorem Device.afterWrite_control2_wakes (d : Device) {v : Byte} (h : v.getLsbD 7 = false) :
    WakeEffect d (d.afterWrite 0x0A v) := by
  have hstore : d.afterWrite 0x0A v = d.wake.store 0x0A v :=
    (d.afterWrite_control2 v).trans (if_neg (ne_true_of_eq_false h))
  rw [hstore]
  exact ⟨rfl, rfl⟩

theorem Device.afterWrite_period_wakes (d : Device) (v : Byte) : WakeEffect d (d.afterWrite 0x0B v) := by
  rw [show d.afterWrite 0x0B v = d.wake.store 0x0B v from d.afterWrite_period v]
  exact ⟨rfl, rfl⟩

/-- A Settings write decides `measuring` by its bit 0, which then reads as stored. -/
theorem Device.afterWrite_settings_mode (d : Device) (v : Byte) :
    (d.afterWrite 0x09 v).measuring = (if v.getLsbD 0 then .one else .zero) ∧
      (d.afterWrite 0x09 v).modeFree = false := by
  rw [show d.afterWrite 0x09 v = d.wake.storeSettings v from d.afterWrite_settings v]
  exact ⟨rfl, rfl⟩

theorem Device.afterWrite_softReset (d : Device) {v : Byte} (h : v.getLsbD 7 = true) :
    d.afterWrite 0x0A v = d.softReset v := (d.afterWrite_control2 v).trans (if_pos h)

theorem byteOfControl2_bits (f : Control2) : (byteOfControl2 f).getLsbD 7 = f.softRst ∧
    (byteOfControl2 f).getLsbD 6 = f.rolPnt ∧ (byteOfControl2 f).getLsbD 0 = f.intEnb := by
  obtain ⟨-, hround⟩ := control2OfByte_byteOfControl2 f
  exact ⟨congrArg Control2.softRst hround, congrArg Control2.rolPnt hround, congrArg Control2.intEnb hround⟩

/-! ## RegisterAccess -/

/-- Settles O36: each of the three stores, by its register. -/
theorem wrbStoresTheRegister : Obligations.WrbStoresTheRegister := by
  intro r v s hinit hok hr
  obtain ⟨t, hrun, hevents, hdone⟩ := exec_wrb_done r v hinit hok
  refine ⟨t, hrun, hdone.ended, hdone.traffic, hdone.init, hdone.standby, hevents, ?_⟩
  rw [hdone.dev]
  obtain rfl | ⟨rfl, h7⟩ | rfl := hr
  · exact ⟨Device.afterWrite_settings_effect _ _, Device.afterWrite_settings_mode _ _⟩
  · obtain ⟨hmeasuring, hmode⟩ := s.devNow.afterWrite_control2_wakes h7
    exact ⟨Device.afterWrite_control2_effect _ _ h7, hmeasuring, hmode⟩
  · obtain ⟨hmeasuring, hmode⟩ := s.devNow.afterWrite_period_wakes v
    exact ⟨Device.afterWrite_period_effect _ _, hmeasuring, hmode⟩

/-- Settles O37: the write is a soft reset. -/
theorem wrbOfSoftResetResetsTheDevice : Obligations.WrbOfSoftResetResetsTheDevice := by
  intro v s hinit hok h7
  obtain ⟨t, hrun, hevents, hdone⟩ := exec_wrb_done 0x0A v hinit hok
  refine ⟨t, hrun, hdone.ended, hdone.traffic, hdone.init, hdone.standby, hevents, ?_⟩
  rw [hdone.dev, Device.afterWrite_softReset _ h7]
  obtain ⟨hsoft, hrol⟩ := s.devNow.softReset_control2 v
  exact ⟨hsoft, hrol, Device.softReset_reg _ _, rfl, rfl⟩

/-- Settles O38: the write leaves the device in an unknown state. -/
theorem wrbElsewhereLeavesTheDeviceUnknown : Obligations.WrbElsewhereLeavesTheDeviceUnknown := by
  intro r v s hinit hok h9 hA hB
  obtain ⟨t, hrun, hevents, hdone⟩ := exec_wrb_done r v hinit hok
  refine ⟨t, hrun, hdone.ended, hdone.traffic, hdone.init, hdone.standby, hevents, ?_⟩
  rw [hdone.dev, Device.afterWrite_other _ r v h9 hA hB]
  exact s.devNow.unknown_effect

/-! ## FlagRegister -/

/-- Settles O44: without SOFT_RST the written byte has bit 7 zero, and is stored. -/
theorem setc2StoresTheBitset : Obligations.Setc2StoresTheBitset := by
  intro f s hinit hok hsoft
  obtain ⟨t, hrun, hevents, hdone⟩ := exec_setc2_done f hinit hok
  have h7 : (byteOfControl2 f).getLsbD 7 = false := (byteOfControl2_bits f).1.trans hsoft
  refine ⟨t, hrun, hdone.ended, hdone.traffic, hdone.init, hdone.standby, hevents, ?_⟩
  rw [hdone.dev]
  obtain ⟨hmeasuring, hmode⟩ := s.devNow.afterWrite_control2_wakes h7
  exact ⟨Device.afterWrite_control2_effect _ _ h7, hmeasuring, hmode⟩

/-- Settles O45: with SOFT_RST the written byte has bit 7 set, and the write is a soft reset. -/
theorem setc2OfSoftRstResetsTheDevice : Obligations.Setc2OfSoftRstResetsTheDevice := by
  intro f s hinit hok hsoft
  obtain ⟨t, hrun, hevents, hdone⟩ := exec_setc2_done f hinit hok
  obtain ⟨h7, h6, h0⟩ := byteOfControl2_bits f
  refine ⟨t, hrun, hdone.ended, hdone.traffic, hdone.init, hdone.standby, hevents, ?_⟩
  rw [hdone.dev, Device.afterWrite_softReset _ (h7.trans hsoft)]
  obtain ⟨hsoft', hrol⟩ := s.devNow.softReset_control2 (byteOfControl2 f)
  exact ⟨hsoft', fun h6' h0' => hrol (h6.trans h6') (h0.trans h0'), Device.softReset_reg _ _, rfl, rfl⟩

/-- Settles O46: the whole byte is written, with the flags left out as zeros. -/
theorem setc2WritesTheFlagsLeftOutAsZero : Obligations.Setc2WritesTheFlagsLeftOutAsZero := by
  intro f s hinit hok
  obtain ⟨t, hrun, -, hdone⟩ := exec_setc2_done f hinit hok
  obtain ⟨hmask, hround⟩ := control2OfByte_byteOfControl2 f
  refine ⟨t, byteOfControl2 f, hrun, hdone.traffic.bus, hround, hmask, ?_⟩
  rintro rfl
  have hstored : t.dev.reg 0x0A = 0x01 := hdone.dev ▸ (s.devNow.afterWrite_control2_effect 0x01 rfl).stored
  rw [Device.rolPnt, hstored]
  decide

/-! ## DeviceController -/

/-- Settles O54: the Settings byte has bit 0 one, so the device measures. -/
theorem chsetStoresTheSettings : Obligations.ChsetStoresTheSettings := by
  intro set s hinit hok
  obtain ⟨t, hrun, hevents, hdone⟩ := exec_write_done (.chset set) 0x09 (encodeSettings set)
    (if Config.diag then [.settingsApplied (encodeSettings set)] else []) hinit hok fun h => by
      rw [bodyOf, settingsBody, h]; rfl
  obtain ⟨hmeasuring, hmode⟩ := s.devNow.afterWrite_settings_mode (encodeSettings set)
  obtain ⟨-, -, -, -, h0⟩ := encodeSettings_fields set
  rw [h0] at hmeasuring
  refine ⟨t, hrun, hdone.ended, hdone.traffic, hdone.init, hdone.standby, hevents, ?_⟩
  rw [hdone.dev]
  exact ⟨Device.afterWrite_settings_effect _ _, hmeasuring, hmode⟩

/-- Settles O58: the period write stores its byte and wakes the device. -/
theorem setsrpStoresThePeriod : Obligations.SetsrpStoresThePeriod := by
  intro v s hinit hok
  obtain ⟨t, hrun, hevents, hdone⟩ := exec_write_done (.setsrp v) 0x0B v [] hinit hok fun h => by
    rw [bodyOf, h]; rfl
  obtain ⟨hmeasuring, hmode⟩ := s.devNow.afterWrite_period_wakes v
  refine ⟨t, hrun, hdone.ended, hdone.traffic, hdone.init, hdone.standby, hevents, ?_⟩
  rw [hdone.dev]
  exact ⟨Device.afterWrite_period_effect _ _, hmeasuring, hmode⟩

/-! ## The device -/

/-- What register `b` holds where a byte was put at `a`. -/
theorem Device.reg_mem_write (d : Device) (m : Memory) (a b : Nat) (v : Byte) :
    Device.reg { d with mem := m.write a v } b = if b = a then v else Device.reg { d with mem := m } b := by
  split
  · next h =>
    subst h
    exact Device.reg_write_same { d with mem := m } b v _ rfl
  · next h => exact Device.reg_write_other { d with mem := m } _ a b v rfl rfl h

theorem Device.update_of_standby {d : Device} (h : d.measuring = .zero) (x y z temp : BitVec 16) (dor ovl : Bool) :
    d.update x y z temp dor ovl = d := by
  have hmay : d.mayMeasure = false := by simp [Device.mayMeasure, h]
  rw [Device.update, hmay]
  rfl

/-- What each register holds after a measurement update. -/
theorem Device.update_reg {d : Device} (h : d.measuring ≠ .zero) (x y z temp : BitVec 16) (dor ovl : Bool) (a : Nat) :
    (d.update x y z temp dor ovl).reg a =
      if a = 8 then temp.extractLsb' 8 8 else if a = 7 then temp.extractLsb' 0 8
      else if a = 6 then d.statusAfterUpdate dor ovl
      else if a = 5 then z.extractLsb' 8 8 else if a = 4 then z.extractLsb' 0 8
      else if a = 3 then y.extractLsb' 8 8 else if a = 2 then y.extractLsb' 0 8
      else if a = 1 then x.extractLsb' 8 8 else if a = 0 then x.extractLsb' 0 8 else d.reg a := by
  have hmay : d.mayMeasure = true := by simp [Device.mayMeasure, h]
  simp only [Device.update, if_pos hmay, bytesLE, List.cons_append, List.nil_append, Memory.writeAll,
    Device.reg_mem_write]

/-- The three flags after a measurement update. -/
theorem Device.statusAfterUpdate_flags (d : Device) (dor ovl : Bool) :
    (d.statusAfterUpdate dor ovl).getLsbD 0 = true ∧
      (d.statusAfterUpdate dor ovl).getLsbD 2 = ((d.reg 0x06).getLsbD 2 || dor) ∧
      (d.statusAfterUpdate dor ovl).getLsbD 1 = ((d.reg 0x06).getLsbD 1 || ovl) := by
  cases dor <;> cases ovl <;> simp [Device.statusAfterUpdate]

/-- Settles O59: the update puts the data, the Status byte and the temperature in their registers. -/
theorem measurementUpdateSetsDataAndDrdy : Obligations.MeasurementUpdateSetsDataAndDrdy := by
  intro d x y z temp dor ovl
  refine ⟨fun h => d.update_of_standby h x y z temp dor ovl, fun h => ?_⟩
  have hreg := Device.update_reg h x y z temp dor ovl
  obtain ⟨hdrdy, hdor, hovl⟩ := d.statusAfterUpdate_flags dor ovl
  refine ⟨hreg 0, hreg 1, hreg 2, hreg 3, hreg 4, hreg 5, hreg 7, hreg 8, ?_, ?_, ?_, fun a ha => ?_, rfl⟩
  · exact (congrArg (fun v => BitVec.getLsbD v 0) (hreg 6)).trans hdrdy
  · exact (congrArg (fun v => BitVec.getLsbD v 2) (hreg 6)).trans hdor
  · exact (congrArg (fun v => BitVec.getLsbD v 1) (hreg 6)).trans hovl
  · refine (hreg a).trans ?_
    iterate 9 rw [if_neg (by omega)]

/-- Settles O60: by the register written; a read wakes the device. -/
theorem eachAccessDecidesHardwareStandby : Obligations.EachAccessDecidesHardwareStandby := by
  refine ⟨Device.afterWrite_settings_mode, fun d hzero => ⟨fun r n => ?_, fun v => ?_, fun v h7 => ?_⟩,
    fun d v h7 => ?_, fun d r v h9 hA hB => ?_⟩
  · have heffect := d.afterRead_effect r n
    exact ⟨heffect.measuring.trans (if_pos hzero), heffect.modeFree.trans (if_pos hzero)⟩
  · obtain ⟨hmeasuring, hmode⟩ := d.afterWrite_period_wakes v
    exact ⟨hmeasuring.trans (if_pos hzero), hmode.trans (if_pos hzero)⟩
  · obtain ⟨hmeasuring, hmode⟩ := d.afterWrite_control2_wakes h7
    exact ⟨hmeasuring.trans (if_pos hzero), hmode.trans (if_pos hzero)⟩
  · rw [Device.afterWrite_softReset d h7]
    rfl
  · rw [Device.afterWrite_other d r v h9 hA hB]
    rfl

end Sys2Proof.Machine
end

section
/-! PROOFS. The commands of more than one transaction: NEW, RESET and STBY (44_device_controller.md R181 to R183). The
device of each later transaction is the one the environment has left before it (00_scope.md R9). -/

namespace Sys2Proof.Machine

variable {s m : State} {k : Nat} {e : BusError} {a : Answer}

/-! ## The device between two transactions -/

/-- Where nothing else reaches the device, a transaction finds it as the one before left it. -/
theorem State.devFound_of_nil (h : (s.envAt k).before = []) (d : Device) : s.devFound d k = d := by
  rw [State.devFound, h, Device.envEvents_nil]

theorem State.transact_devNow (m : State) (op : BusOp) : (m.transact op).devNow = m.devFound (m.devAfter op) 1 := by
  rw [State.devNow, State.transact_envAt, State.transact_dev, State.devFound]

/-- The device as the transaction after a write finds it. -/
theorem State.wrote_devNow (hok : (m.envAt 0).answer = .ok) (addr v : Byte) :
    (m.wrote addr v).devNow = m.devFound (m.devNow.afterWrite addr v) 1 :=
  (State.transact_devNow _ _).trans (congrArg (m.devFound · 1) (State.devAfter_ok hok _))

/-- A write that fails: it is the last transaction of the record, and the device it found goes into an unknown state. -/
theorem Underway.wrote_failed (hm : Underway s k m) (herr : (m.envAt 0).answer = .err e) (addr v : Byte) (r : Reply) :
    Traffic s ((m.wrote addr v).close r) (m.bus ++ [⟨.write 0x0D addr v, .err e⟩]) ∧
      UnknownEffect m.devNow ((m.wrote addr v).close r).dev :=
  Underway.transact_failed (hm.adjust m.init false m.stepNo m.t m.buf m.events) herr _ r

/-! ## RESET's body -/

/-- RESET's body after its first write, the reset pulse. -/
def State.pulsed (m : State) : State := ((m.emit .resetStart).wrote 0x0A 0x80).tick

/-- RESET's body after its second write, rollover enable. -/
def State.rolled (m : State) : State := m.pulsed.wrote 0x0A 0x40

@[simp] theorem State.pulsed_envAt (m : State) (k : Nat) : m.pulsed.envAt k = m.envAt (k + 1) :=
  State.wrote_envAt (m.emit .resetStart) 0x0A 0x80 k

@[simp] theorem State.rolled_envAt (m : State) (k : Nat) : m.rolled.envAt k = m.envAt (k + 2) := by
  rw [State.rolled, State.wrote_envAt, State.pulsed_envAt]

theorem State.pulsed_answer (h1 : (m.envAt 1).answer = a) : (m.pulsed.envAt 0).answer = a := by
  rwa [State.pulsed_envAt]

theorem Underway.pulsed (hm : Underway s k m) (hok : (m.envAt 0).answer = .ok) : Underway s (k + 1) m.pulsed := by
  have hm' : Underway s k (m.emit .resetStart) := hm.adjust ..
  exact (hm'.wrote hok 0x0A 0x80).adjust ..

theorem Underway.rolled (hm : Underway s k m) (h0 : (m.envAt 0).answer = .ok) (h1 : (m.envAt 1).answer = .ok) :
    Underway s (k + 2) m.rolled := (hm.pulsed h0).wrote (State.pulsed_answer h1) 0x0A 0x40

theorem State.pulsed_bus (hok : (m.envAt 0).answer = .ok) :
    m.pulsed.bus = m.bus ++ [⟨.write 0x0D 0x0A 0x80, .ok []⟩] := State.wrote_bus (m := m.emit .resetStart) hok _ _

theorem State.rolled_bus (h0 : (m.envAt 0).answer = .ok) (h1 : (m.envAt 1).answer = .ok) :
    m.rolled.bus = m.bus ++ [⟨.write 0x0D 0x0A 0x80, .ok []⟩, ⟨.write 0x0D 0x0A 0x40, .ok []⟩] := by
  rw [State.rolled, State.wrote_bus (State.pulsed_answer h1), State.pulsed_bus h0, List.append_assoc]
  rfl

theorem State.pulsed_devNow (hok : (m.envAt 0).answer = .ok) :
    m.pulsed.devNow = m.devFound (m.devNow.afterWrite 0x0A 0x80) 1 :=
  State.wrote_devNow (m := m.emit .resetStart) hok _ _

theorem State.rolled_dev (h0 : (m.envAt 0).answer = .ok) (h1 : (m.envAt 1).answer = .ok) :
    m.rolled.dev = (m.devFound (m.devNow.afterWrite 0x0A 0x80) 1).afterWrite 0x0A 0x40 := by
  rw [State.rolled, State.wrote_dev (State.pulsed_answer h1), State.pulsed_devNow h0]

theorem State.rolled_devNow (h0 : (m.envAt 0).answer = .ok) (h1 : (m.envAt 1).answer = .ok) :
    m.rolled.devNow = m.devFound ((m.devFound (m.devNow.afterWrite 0x0A 0x80) 1).afterWrite 0x0A 0x40) 2 := by
  rw [State.devNow, State.rolled_envAt, State.rolled_dev h0 h1]
  rfl

theorem resetBody_of_pulse (hok : (m.envAt 0).answer = .ok) : resetBody m = memWrite 0x0A 0x40 m.pulsed := by
  rw [resetBody, memWrite_ok (s := m.emit .resetStart) hok, Seq.andThen_go]
  rfl

theorem resetBody_ok (h0 : (m.envAt 0).answer = .ok) (h1 : (m.envAt 1).answer = .ok) : resetBody m = .go m.rolled :=
  (resetBody_of_pulse h0).trans (memWrite_ok (State.pulsed_answer h1) _ _)

theorem resetBody_err (h0 : (m.envAt 0).answer = .ok) (h1 : (m.envAt 1).answer = .err e) :
    resetBody m = .stop (.transportError e) m.rolled :=
  (resetBody_of_pulse h0).trans (memWrite_err (State.pulsed_answer h1) _ _)

/-- RESET's body whose second write fails. -/
theorem Underway.rolled_failed (hm : Underway s k m) (h0 : (m.envAt 0).answer = .ok)
    (h1 : (m.envAt 1).answer = .err e) (r : Reply) :
    Traffic s (m.rolled.close r)
        (m.bus ++ [⟨.write 0x0D 0x0A 0x80, .ok []⟩, ⟨.write 0x0D 0x0A 0x40, .err e⟩]) ∧
      UnknownEffect (m.devFound (m.devNow.afterWrite 0x0A 0x80) 1) (m.rolled.close r).dev := by
  have hfailed := (hm.pulsed h0).wrote_failed (State.pulsed_answer h1) 0x0A 0x40 r
  rwa [State.pulsed_bus h0, State.pulsed_devNow h0, List.append_assoc] at hfailed

/-! ## NEW -/

/-- NEW before its first write: the two bits are 0. -/
def State.newStart (s : State) : State := ((s.accept.setInit false).setStandby false).tick

theorem Underway.newStart (s : State) : Underway s 0 s.newStart := (Underway.accept s).adjust ..

theorem exec_new (set : Settings) (s : State) : exec (.new set) s =
    .next (((resetBody s.newStart).andThen (settingsBody set)).andThen fun m =>
      .go ((m.emit (.settingsApplied (encodeSettings set))).setInit true)).finish := rfl

theorem exec_new_of_rolled (set : Settings) (h0 : (s.envAt 0).answer = .ok) (h1 : (s.envAt 1).answer = .ok) :
    exec (.new set) s = .next ((memWrite 0x09 (encodeSettings set) s.newStart.rolled.tick).andThen fun m =>
      .go ((m.emit (.settingsApplied (encodeSettings set))).setInit true)).finish := by
  rw [exec_new, resetBody_ok (m := s.newStart) h0 h1, Seq.andThen_go, settingsBody]

/-- Settles O21: the failed write is the last one, and the two bits were cleared before the first. -/
theorem newFailingLaterStaysUninitialized : Obligations.NewFailingLaterStaysUninitialized := by
  intro set s e h0
  have hstart := Underway.newStart s
  refine ⟨fun h1 => ?_, fun h1 h2 => ?_⟩
  · obtain ⟨htraffic, heffect⟩ := hstart.rolled_failed h0 h1 (.transportError e)
    refine ⟨s.newStart.rolled.close (.transportError e), ?_, State.close_ended _, rfl, rfl, htraffic,
      heffect⟩
    rw [exec_new, resetBody_err (m := s.newStart) h0 h1]
    rfl
  · have hrolled : Underway s 2 s.newStart.rolled.tick := (hstart.rolled h0 h1).adjust ..
    have h2' : (s.newStart.rolled.tick.envAt 0).answer = .err e := by
      rwa [State.tick_envAt, State.rolled_envAt]
    obtain ⟨htraffic, heffect⟩ := hrolled.wrote_failed h2' 0x09 (encodeSettings set) (.transportError e)
    rw [State.tick_bus, State.rolled_bus (m := s.newStart) h0 h1] at htraffic
    rw [State.tick_devNow, State.rolled_devNow (m := s.newStart) h0 h1] at heffect
    refine ⟨(s.newStart.rolled.tick.wrote 0x09 (encodeSettings set)).close (.transportError e), ?_,
      State.close_ended _, rfl, rfl, htraffic, heffect⟩
    rw [exec_new_of_rolled set h0 h1, memWrite_err h2']
    rfl

theorem Emitted.emit {es : List DiagEvent} (h : Emitted m es) (ev : DiagEvent) : Emitted (m.emit ev) (es ++ [ev]) := by
  rw [Emitted, State.emit_events, h]
  by_cases hdiag : Config.diag = true
  · simp [hdiag]
  · simp [hdiag]

/-- NEW whose three writes are answered. -/
theorem exec_new_done (set : Settings) (h0 : (s.envAt 0).answer = .ok) (h1 : (s.envAt 1).answer = .ok)
    (h2 : (s.envAt 2).answer = .ok) :
    ∃ t, exec (.new set) s = .next t ∧ Ended s t (.ok .nothing) ∧
      Traffic s t [⟨.write 0x0D 0x0A 0x80, .ok []⟩, ⟨.write 0x0D 0x0A 0x40, .ok []⟩,
        ⟨.write 0x0D 0x09 (encodeSettings set), .ok []⟩] ∧
      t.init = true ∧ t.standby = false ∧ Emitted t [.resetStart, .settingsApplied (encodeSettings set)] ∧
      t.dev = (s.devFound ((s.devFound (s.devNow.afterWrite 0x0A 0x80) 1).afterWrite 0x0A 0x40) 2).afterWrite 0x09
        (encodeSettings set) := by
  have hrolled : Underway s 2 s.newStart.rolled.tick := ((Underway.newStart s).rolled h0 h1).adjust ..
  have h2' : (s.newStart.rolled.tick.envAt 0).answer = .ok := by
    rwa [State.tick_envAt, State.rolled_envAt]
  have htraffic := (hrolled.wrote h2' 0x09 (encodeSettings set)).traffic
  rw [State.wrote_bus h2', State.tick_bus, State.rolled_bus (m := s.newStart) h0 h1] at htraffic
  have hdev := State.wrote_dev h2' 0x09 (encodeSettings set)
  rw [State.tick_devNow, State.rolled_devNow (m := s.newStart) h0 h1] at hdev
  have hpulse : Emitted (s.newStart.rolled.tick.wrote 0x09 (encodeSettings set)).tick [.resetStart] := rfl
  refine ⟨(((s.newStart.rolled.tick.wrote 0x09 (encodeSettings set)).tick.emit
      (.settingsApplied (encodeSettings set))).setInit true).close (.ok .nothing), ?_, State.close_ended _,
    ⟨htraffic.bus, htraffic.env, htraffic.txns⟩, rfl, rfl, hpulse.emit (.settingsApplied (encodeSettings set)), hdev⟩
  rw [exec_new_of_rolled set h0 h1, memWrite_ok h2']
  rfl

/-- Settles O50: the third write is a Settings write with bit 0 one; what stands between it and the second is the
environment's. -/
theorem newResetsAndConfiguresTheDevice : Obligations.NewResetsAndConfiguresTheDevice := by
  intro set s h0 h1 h2
  obtain ⟨t, hrun, hended, htraffic, hinit, hstandby, hemitted, hdev⟩ := exec_new_done set h0 h1 h2
  have hstore : StoreEffect (s.devFound ((s.devFound (s.devNow.afterWrite 0x0A 0x80) 1).afterWrite 0x0A 0x40) 2) t.dev
      0x09 (encodeSettings set) := hdev ▸ Device.afterWrite_settings_effect _ _
  obtain ⟨hmeasuring, hmode⟩ := hdev ▸ Device.afterWrite_settings_mode _ (encodeSettings set)
  obtain ⟨-, -, -, -, hbit⟩ := encodeSettings_fields set
  rw [hbit] at hmeasuring
  refine ⟨t, hrun, hended, htraffic, hinit, hstandby, ?_, hemitted, hstore, hmeasuring, hmode, fun hnil => ?_⟩
  · simp [State.lifecycle, hinit, hstandby]
  · have hcontrol2 : t.dev.reg 0x0A = 0x40 := by
      rw [hstore.frame 0x0A (by decide), State.devFound_of_nil hnil]
      exact (Device.afterWrite_control2_effect _ 0x40 rfl).stored
    rw [hcontrol2]
    rfl

/-! ## RESET -/

/-- Settles O51: the second write stores 0x40, after the environment's steps; the first was a soft reset. -/
theorem resetPulsesThenEnablesRollover : Obligations.ResetPulsesThenEnablesRollover := by
  intro s hinit h0 h1
  have htraffic := ((Underway.accept s).rolled h0 h1).traffic
  rw [State.rolled_bus (m := s.accept) h0 h1] at htraffic
  have hdev : s.accept.rolled.dev = (s.devFound (s.devNow.afterWrite 0x0A 0x80) 1).afterWrite 0x0A 0x40 :=
    State.rolled_dev (m := s.accept) h0 h1
  have hstore : StoreEffect (s.devFound (s.devNow.afterWrite 0x0A 0x80) 1) s.accept.rolled.dev 0x0A 0x40 :=
    hdev ▸ Device.afterWrite_control2_effect _ 0x40 rfl
  have hwake : WakeEffect (s.devFound (s.devNow.afterWrite 0x0A 0x80) 1) s.accept.rolled.dev :=
    hdev ▸ Device.afterWrite_control2_wakes _ rfl
  refine ⟨s.accept.rolled.close (.ok .nothing), ?_, State.close_ended _,
    ⟨htraffic.bus, htraffic.env, htraffic.txns⟩, hinit, rfl, rfl, hstore, ?_, fun hnil => ?_⟩
  · rw [exec_checked fun _ => hinit, bodyOf, resetBody_ok (m := s.accept) h0 h1]
    rfl
  · rw [State.close_dev, Device.rolPnt, hstore.stored]
    rfl
  · rw [State.devFound_of_nil hnil, Device.afterWrite_softReset _ (by decide)] at hstore hwake
    exact ⟨fun a ha => (hstore.frame a ha).trans (Device.softReset_reg _ _ a ha), hwake.measuring, hwake.modeFree⟩

/-! ## STBY -/

/-- STBY after its read, the byte it read in `t`. -/
def State.stbyRead (s : State) : State := (s.afterRead 0x09 1).tick.setT ((s.afterRead 0x09 1).bufAt 0)

theorem Underway.stbyRead (h0 : (s.envAt 0).answer = .ok) : Underway s 1 s.stbyRead := by
  have hm : Underway s 0 (s.accept.setStandby false) := (Underway.accept s).adjust ..
  exact (hm.transact (op := .writeRead Config.busAddr 0x09 1) rfl h0).adjust ..

theorem State.stbyRead_envAt (s : State) (k : Nat) : s.stbyRead.envAt k = s.envAt (k + 1) :=
  State.transact_envAt (s.accept.setStandby false) (.writeRead Config.busAddr 0x09 1) k

theorem State.stbyRead_bus (h0 : (s.envAt 0).answer = .ok) :
    s.stbyRead.bus = [⟨.writeRead 0x0D 0x09 1, .ok [(s.afterRead 0x09 1).bufAt 0]⟩] :=
  congrArg (fun result => [Txn.mk (.writeRead 0x0D 0x09 1) result]) (State.resultNow_ok h0 _)

theorem State.stbyRead_devNow (h0 : (s.envAt 0).answer = .ok) :
    s.stbyRead.devNow = s.devFound (s.devNow.afterRead 0x09 1) 1 :=
  (State.transact_devNow (s.accept.setStandby false) _).trans (congrArg (s.devFound · 1) (State.devAfter_ok h0 _))

theorem exec_stby_of_read (hinit : s.init = true) (h0 : (s.envAt 0).answer = .ok) : exec .stby s =
    .next ((memWrite 0x09 ((s.afterRead 0x09 1).bufAt 0 &&& 0xFE) s.stbyRead).andThen fun m =>
      .go (m.setStandby true)).finish := by
  rw [exec_checked fun _ => hinit, bodyOf, memRead_ok (s := s.accept) h0]
  rfl

/-- Settles O22: the failed write is the last one, and both transactions cleared `standby`. -/
theorem secondTransactionFailureLeavesStandbyClear : Obligations.SecondTransactionFailureLeavesStandbyClear := by
  intro s e hinit h0 h1
  refine ⟨?_, ?_⟩
  · obtain ⟨htraffic, heffect⟩ := (Underway.accept s).rolled_failed h0 h1 (.transportError e)
    refine ⟨s.accept.rolled.close (.transportError e), ?_, State.close_ended _, hinit, rfl, htraffic,
      heffect⟩
    rw [exec_checked fun _ => hinit, bodyOf, resetBody_err (m := s.accept) h0 h1]
    rfl
  · have h1' : (s.stbyRead.envAt 0).answer = .err e := by rwa [State.stbyRead_envAt]
    obtain ⟨htraffic, heffect⟩ := (Underway.stbyRead h0).wrote_failed h1' 0x09
      ((s.afterRead 0x09 1).bufAt 0 &&& 0xFE) (.transportError e)
    rw [State.stbyRead_bus h0] at htraffic
    rw [State.stbyRead_devNow h0] at heffect
    refine ⟨(s.stbyRead.wrote 0x09 ((s.afterRead 0x09 1).bufAt 0 &&& 0xFE)).close (.transportError e), _, ?_,
      State.close_ended _, hinit, rfl, htraffic, heffect⟩
    rw [exec_stby_of_read hinit h0, memWrite_err h1']
    rfl

/-- STBY whose two transactions are answered, with the byte it read. -/
theorem exec_stby_done (hinit : s.init = true) (h0 : (s.envAt 0).answer = .ok) (h1 : (s.envAt 1).answer = .ok) :
    ∃ t v, exec .stby s = .next t ∧ Ended s t (.ok .nothing) ∧
      Traffic s t [⟨.writeRead 0x0D 0x09 1, .ok [v]⟩, ⟨.write 0x0D 0x09 (v &&& 0xFE), .ok []⟩] ∧
      v = s.devNow.wake.view 0x09 (s.drawNow 0) ∧ t.init = true ∧ t.standby = true ∧ t.events = [] ∧
      t.dev = (s.devFound (s.devNow.afterRead 0x09 1) 1).afterWrite 0x09 (v &&& 0xFE) := by
  let v := (s.afterRead 0x09 1).bufAt 0
  have h1' : (s.stbyRead.envAt 0).answer = .ok := by rwa [State.stbyRead_envAt]
  have htraffic := ((Underway.stbyRead h0).wrote h1' 0x09 (v &&& 0xFE)).traffic
  rw [State.wrote_bus h1', State.stbyRead_bus h0] at htraffic
  have hdev := State.wrote_dev h1' 0x09 (v &&& 0xFE)
  rw [State.stbyRead_devNow h0] at hdev
  refine ⟨((s.stbyRead.wrote 0x09 (v &&& 0xFE)).tick.setStandby true).close (.ok .nothing), v, ?_,
    State.close_ended _, ⟨htraffic.bus, htraffic.env, htraffic.txns⟩,
    s.afterRead_bufAt_zero 0x09 1 Nat.one_pos, hinit, rfl, rfl, hdev⟩
  rw [exec_stby_of_read hinit h0, memWrite_ok h1']
  rfl

/-- Settles O52: the byte read is written back with bit 0 clear, to the device the environment has left. -/
theorem stbyClearsTheModeBitAndSetsStandby : Obligations.StbyClearsTheModeBitAndSetsStandby := by
  intro s hinit h0 h1
  obtain ⟨t, v, hrun, hended, htraffic, hv, hinit', hstandby, hevents, hdev⟩ := exec_stby_done hinit h0 h1
  have hbit : (v &&& 0xFE).getLsbD 0 = false := by simp
  obtain ⟨hmeasuring, hmode⟩ :=
    (s.devFound (s.devNow.afterRead 0x09 1) 1).afterWrite_settings_mode (v &&& 0xFE)
  rw [hbit] at hmeasuring
  refine ⟨t, v, hrun, hended, htraffic, ?_, hinit', hstandby, ?_, hevents, ?_⟩
  · rw [hv]
    exact s.devNow.view_known 0x09 _
  · simp [State.lifecycle, hinit', hstandby]
  · rw [hdev]
    exact ⟨Device.afterWrite_settings_effect _ _, hmeasuring, hmode⟩

/-! ## Every read clears Status -/

/-- Settles O41: the read's effect on Status, which neither the last step nor STBY's write changes. -/
theorem everyReadClearsStatus : Obligations.EveryReadClearsStatus := by
  intro i s hinit h0
  refine ⟨fun hi => ?_, ?_⟩
  · obtain ⟨addr, n, f, hbody, hf⟩ := bodyOf_singleRead hi
    obtain ⟨r, events, hlast, -⟩ := hf (s.afterRead addr n).tick
    obtain ⟨t, hrun, -, -, hdone⟩ := exec_read_done i addr n events r hinit h0 fun h => by
      rw [hbody, h, Seq.andThen_go, hlast]
      rfl
    exact ⟨t, hrun, hdone.effect.status⟩
  · rintro rfl h1 hnil
    obtain ⟨t, v, hrun, -, -, -, -, -, -, hdev⟩ := exec_stby_done hinit h0 h1
    refine ⟨t, hrun, ?_⟩
    rw [State.devFound_of_nil hnil] at hdev
    have hstore : StoreEffect (s.devNow.afterRead 0x09 1) t.dev 0x09 (v &&& 0xFE) :=
      hdev ▸ Device.afterWrite_settings_effect _ _
    rw [hstore.frame 0x06 (by decide), Device.afterRead_status]
    rfl

end Sys2Proof.Machine
end
